-- ==== Sys2Proof/Word.lean ====
section
/-! DEFINITION. The machine's words: bytes and 16-bit words (spec 00 R13, R14). -/

namespace Sys2Proof

/-- A byte: the width of the Z80 data bus (00 R13). -/
abbrev Byte := BitVec 8

/-- A 16-bit word: the width of a memory address, a port address and a register pair (00 R13). -/
abbrev Word := BitVec 16

end Sys2Proof
end

