-- ==== Sys2Proof/Machine/Bits.lean ====
section
/-! DEFINITION. Bit-field, sign-extension and byte-order helpers (00 R14, 20 R102, 30 R187). -/

namespace Sys2Proof.Machine

/-- `hi:lo`: the word of two bytes (00 R14). -/
def mkWord (hi lo : Byte) : Word := hi ++ lo

/-- `w[15:8]`. -/
def hiByte (w : Word) : Byte := w.extractLsb' 8 8

/-- `w[7:0]`. -/
def loByte (w : Word) : Byte := w.extractLsb' 0 8

/-- `sext_16(v)` (00 R14). -/
def sext16 (v : Byte) : Word := v.signExtend 16

/-- `zext_16(v)` (00 R14). -/
def zext16 (v : Byte) : Word := v.setWidth 16

/-- `parity(v)`: true when v has an even number of one bits (00 R14, 41 R300). -/
def parity (v : Byte) : Bool :=
  !((v.getLsbD 0 ^^ v.getLsbD 1 ^^ v.getLsbD 2 ^^ v.getLsbD 3)
    ^^ (v.getLsbD 4 ^^ v.getLsbD 5 ^^ v.getLsbD 6 ^^ v.getLsbD 7))

/-- The low four bits of a byte as a number. -/
def lowNibble (v : Byte) : Nat := v.toNat % 16

/-- The four bits above them. -/
def highNibble (v : Byte) : Nat := v.toNat / 16

/-- A Bool as 0 or 1. -/
def bit01 (b : Bool) : Nat := if b then 1 else 0

/-- A byte from a natural number, modulo 256. -/
def byteOf (n : Nat) : Byte := BitVec.ofNat 8 n

/-- Eight bits, the most significant first, as a byte. -/
def byteOfBits (b7 b6 b5 b4 b3 b2 b1 b0 : Bool) : Byte :=
  BitVec.ofBool b7 ++ BitVec.ofBool b6 ++ BitVec.ofBool b5 ++ BitVec.ofBool b4
    ++ BitVec.ofBool b3 ++ BitVec.ofBool b2 ++ BitVec.ofBool b1 ++ BitVec.ofBool b0

end Sys2Proof.Machine
end

