-- ==== Sys2Proof/Machine/Flags.lean ====
section
/-! DEFINITION. The flag register and every flag computation (10 R32, 41 R300 and the flag clauses of
files 40 to 43), as functions of bytes and words: a result with the new F, or the new F. -/

namespace Sys2Proof.Machine

/-! ## The bits of F: S7 Z6 Y5 H4 X3 PV2 N1 C0 (10 R32) -/

/-- F.S. -/
def flagS (f : Byte) : Bool := f.getLsbD 7
/-- F.Z. -/
def flagZ (f : Byte) : Bool := f.getLsbD 6
/-- F.Y. -/
def flagY (f : Byte) : Bool := f.getLsbD 5
/-- F.H. -/
def flagH (f : Byte) : Bool := f.getLsbD 4
/-- F.X. -/
def flagX (f : Byte) : Bool := f.getLsbD 3
/-- F.PV. -/
def flagPV (f : Byte) : Bool := f.getLsbD 2
/-- F.N. -/
def flagN (f : Byte) : Bool := f.getLsbD 1
/-- F.C. -/
def flagC (f : Byte) : Bool := f.getLsbD 0

/-- F of its eight flags, in the order S Z Y H X PV N C. -/
def packF (s z y h x pv n c : Bool) : Byte := byteOfBits s z y h x pv n c

/-- F with S, Z, Y and X from a result: `SZXY(v)` (41 R300), and the other four as given. -/
def szxyF (v : Byte) (h pv n c : Bool) : Byte :=
  packF (v.getLsbD 7) (v == 0) (v.getLsbD 5) h (v.getLsbD 3) pv n c

/-! ## 8-bit arithmetic and logic (41 R302 to R309) -/

/-- `A + s + c`: the result and F (41 R302, R303). -/
def addByte (a s : Byte) (c : Bool) : Byte × Byte :=
  let t := a.toNat + s.toNat + bit01 c
  let res := byteOf t
  (res, szxyF res (decide (lowNibble a + lowNibble s + bit01 c > 15))
    (a.getLsbD 7 == s.getLsbD 7 && res.getLsbD 7 != a.getLsbD 7) false (decide (t > 255)))

/-- The flags of a subtraction `A - s - c` but Y and X, and its result (41 R304, R305). -/
def subByte (a s : Byte) (c : Bool) : Byte × Byte :=
  let res := a - s - byteOf (bit01 c)
  (res, szxyF res (decide (lowNibble a < lowNibble s + bit01 c))
    (a.getLsbD 7 != s.getLsbD 7 && res.getLsbD 7 != a.getLsbD 7) true
    (decide (a.toNat < s.toNat + bit01 c)))

/-- F of a compare: as a subtraction, but Y and X from the operand (41 R309). -/
def compareF (a s : Byte) : Byte :=
  let f := (subByte a s false).2
  packF (flagS f) (flagZ f) (s.getLsbD 5) (flagH f) (s.getLsbD 3) (flagPV f) (flagN f) (flagC f)

/-- F of AND (41 R306). -/
def andF (res : Byte) : Byte := szxyF res true (parity res) false false

/-- F of XOR and OR (41 R307, R308). -/
def orF (res : Byte) : Byte := szxyF res false (parity res) false false

/-- INC: the result and F from the old F (41 R310). -/
def incByte (v f : Byte) : Byte × Byte :=
  let res := v + 1
  (res, szxyF res (lowNibble v == 15) (v == 0x7F) false (flagC f))

/-- DEC: the result and F from the old F (41 R313). -/
def decByte (v f : Byte) : Byte × Byte :=
  let res := v - 1
  (res, szxyF res (lowNibble v == 0) (v == 0x80) true (flagC f))

/-! ## Accumulator and flag operations (41 R316 to R320) -/

/-- The correction of DAA (41 R316). -/
def daaCorrection (a f : Byte) : Byte :=
  (if flagH f || decide (lowNibble a > 9) then 0x06 else 0)
    + (if flagC f || decide (a.toNat > 0x99) then 0x60 else 0)

/-- DAA: the result and F (41 R316). -/
def daaByte (a f : Byte) : Byte × Byte :=
  let corr := daaCorrection a f
  let res := if flagN f then a - corr else a + corr
  let h := if flagN f then flagH f && decide (lowNibble a < 6) else decide (lowNibble a > 9)
  (res, szxyF res h (parity res) (flagN f) (flagC f || decide (a.toNat > 0x99)))

/-- F of CPL (41 R317). -/
def cplF (res f : Byte) : Byte :=
  packF (flagS f) (flagZ f) (res.getLsbD 5) true (res.getLsbD 3) (flagPV f) true (flagC f)

/-- F of CCF, with its two draws (41 R319). -/
def ccfF (f : Byte) (y x : Bool) : Byte :=
  packF (flagS f) (flagZ f) y (flagC f) x (flagPV f) false (!flagC f)

/-- F of SCF, with its two draws (41 R320). -/
def scfF (f : Byte) (y x : Bool) : Byte :=
  packF (flagS f) (flagZ f) y false x (flagPV f) false true

/-! ## 16-bit arithmetic (41 R321 to R324) -/

/-- The low twelve bits of a word as a number. -/
def low12 (w : Word) : Nat := w.toNat % 4096

/-- ADD HL,ss: the result and F from the old F (41 R321). -/
def addWord (a s : Word) (f : Byte) : Word × Byte :=
  let t := a.toNat + s.toNat
  let res := BitVec.ofNat 16 t
  (res, packF (flagS f) (flagZ f) (res.getLsbD 13) (decide (low12 a + low12 s > 0xFFF))
    (res.getLsbD 11) (flagPV f) false (decide (t > 0xFFFF)))

/-- ADC HL,ss: the result and F (41 R322). -/
def adcWord (a s : Word) (c : Bool) : Word × Byte :=
  let t := a.toNat + s.toNat + bit01 c
  let res := BitVec.ofNat 16 t
  (res, packF (res.getLsbD 15) (res == 0) (res.getLsbD 13)
    (decide (low12 a + low12 s + bit01 c > 0xFFF)) (res.getLsbD 11)
    (a.getLsbD 15 == s.getLsbD 15 && res.getLsbD 15 != a.getLsbD 15) false (decide (t > 0xFFFF)))

/-- SBC HL,ss: the result and F (41 R323). -/
def sbcWord (a s : Word) (c : Bool) : Word × Byte :=
  let res := a - s - BitVec.ofNat 16 (bit01 c)
  (res, packF (res.getLsbD 15) (res == 0) (res.getLsbD 13)
    (decide (low12 a < low12 s + bit01 c)) (res.getLsbD 11)
    (a.getLsbD 15 != s.getLsbD 15 && res.getLsbD 15 != a.getLsbD 15) true
    (decide (a.toNat < s.toNat + bit01 c)))

/-! ## Rotates and shifts (42 R370 to R384) -/

/-- A rotate or shift: what it does to a byte, given the carry in; the result and the carry out. -/
abbrev Rot := Byte → Bool → Byte × Bool

/-- RLC (42 R375). -/
def rlc : Rot := fun v _ => (v.extractLsb' 0 7 ++ v.extractLsb' 7 1, v.getLsbD 7)
/-- RRC (42 R376). -/
def rrc : Rot := fun v _ => (v.extractLsb' 0 1 ++ v.extractLsb' 1 7, v.getLsbD 0)
/-- RL (42 R377). -/
def rl : Rot := fun v c => (v.extractLsb' 0 7 ++ BitVec.ofBool c, v.getLsbD 7)
/-- RR (42 R378). -/
def rr : Rot := fun v c => (BitVec.ofBool c ++ v.extractLsb' 1 7, v.getLsbD 0)
/-- SLA (42 R379). -/
def sla : Rot := fun v _ => (v.extractLsb' 0 7 ++ 0#1, v.getLsbD 7)
/-- SRA (42 R380). -/
def sra : Rot := fun v _ => (v.extractLsb' 7 1 ++ v.extractLsb' 1 7, v.getLsbD 0)
/-- SLL (42 R381). -/
def sll : Rot := fun v _ => (v.extractLsb' 0 7 ++ 1#1, v.getLsbD 7)
/-- SRL (42 R382). -/
def srl : Rot := fun v _ => (0#1 ++ v.extractLsb' 1 7, v.getLsbD 0)

/-- F of an accumulator rotate (42 R370 to R373). -/
def rotAF (res f : Byte) (c : Bool) : Byte :=
  packF (flagS f) (flagZ f) (res.getLsbD 5) false (res.getLsbD 3) (flagPV f) false c

/-- F of a CB rotate or shift, of RLD, RRD and IN r,(C) with their C (42 section 3, R383; 43 R431). -/
def rotF (res : Byte) (c : Bool) : Byte := szxyF res false (parity res) false c

/-! ## Bit operations (42 R385 to R387) -/

/-- F of BIT: Y and X as given (42 R385). -/
def bitF (b : BitVec 3) (v f : Byte) (y x : Bool) : Byte :=
  let t := v.getLsbD b.toNat
  packF (b == 7 && t) (!t) y true x (!t) false (flagC f)

/-- `v | (1 << b)` (42 R386). -/
def setBit (b : BitVec 3) (v : Byte) : Byte := v ||| (1#8 <<< b.toNat)

/-- `v & ~(1 << b)` (42 R387). -/
def resBit (b : BitVec 3) (v : Byte) : Byte := v &&& ~~~(1#8 <<< b.toNat)

/-! ## Loads of I and R (40 R244, R245) -/

/-- F of LD A,I and LD A,R (40 R244, R245). -/
def loadIrF (a f : Byte) (pv : Bool) : Byte := szxyF a false pv false (flagC f)

/-! ## Block instructions -/

/-- `k` of the block copies, from which Y and X come (40 R270). -/
def copyK (v a : Byte) : Byte := v + a

/-- F of a block copy: PV, Y and X as given (40 R270). -/
def copyF (f : Byte) (pv y x : Bool) : Byte :=
  packF (flagS f) (flagZ f) y false x pv false (flagC f)

/-- H of a block compare (40 R274). -/
def searchH (a v : Byte) : Bool := decide (lowNibble a < lowNibble v)

/-- `k` of the block compares (40 R274). -/
def searchK (a v : Byte) : Byte := a - v - byteOf (bit01 (searchH a v))

/-- F of a block compare: PV, Y and X as given (40 R274). -/
def searchF (a v f : Byte) (pv y x : Bool) : Byte :=
  packF ((a - v).getLsbD 7) (a - v == 0) y (searchH a v) x pv true (flagC f)

/-- PV of the block I/O instructions: `parity((k mod 8) XOR B)` (43 R433). -/
def blockIoPv (k : Nat) (b : Byte) : Bool := parity (byteOf (k % 8) ^^^ b)

/-- F of a block I/O instruction with H, PV, Y and X as given: S and Z from the new B, N from v, C from
k (43 R433, R440). -/
def blockIoF (b v : Byte) (k : Nat) (h pv y x : Bool) : Byte :=
  packF (b.getLsbD 7) (b == 0) y h x pv (v.getLsbD 7) (decide (k > 255))

end Sys2Proof.Machine
end

