-- ==== Sys2Proof/Config.lean ====
section
/-! DEFINITION. What is fixed for one machine (00 R9 to R12): the architecture tag, its record of
constants, the model options, and the OPEN parameters and draws as constants without a body. -/

namespace Sys2Proof

/-- The architecture tag (00 R2). -/
inductive Architecture where
  | spec48 | spec128 | pentagon | tk | plus2A3
  deriving DecidableEq, Repr

/-- The floating-bus function tag FLOAT_VARIANT (00 R10). -/
inductive FloatVariant where
  | f48 | f128 | fPentagon | fTK | fPlus2A3
  deriving DecidableEq, Repr

/-- One column of the architecture table (00 R10). LINES, which the table derives, is `rasterLines`; FLOAT_VARIANT
is `floatVariant`. -/
structure ArchConfig where
  tFrame : Nat
  usFrame : Nat
  tLine : Nat
  cpuHz : Nat
  intLen : Nat
  hasContention : Bool
  contStart : Option Nat
  screenStart : Nat
  hasFloatingBus : Bool
  floatStart : Option Nat
  hasPaging : Bool
  hasAy : Bool
  ayHz : Nat
  deriving DecidableEq, Repr, Inhabited

/-- RES_MODE (00 R12). -/
inductive ResMode where
  | r4x3 | r16x9
  deriving DecidableEq, Repr

/-- UNDOC_OPCODES (00 R12, 30 R200). -/
inductive UndocMode where
  | execute | refuse
  deriving DecidableEq, Repr

/-- The model options of one machine (00 R12) with its architecture tag (00 R2). Plain data, fixed for
the run: no step changes it. A claim about every state holds for every configuration. -/
structure Cfg where
  arch : Architecture
  resMode : ResMode
  fastMode : Bool
  betadisk : Bool
  ayOn48k : Bool
  outHz : Nat
  undoc : UndocMode
  kempston : Bool
  wdRateRow : Nat
  diskByteTstates : Nat
  /-- VOL_TABLE, 32 entries (00 R12, 46 R572). -/
  volTable : List Nat
  /-- CONTENDED_BANKS, a parameter of Plus2A3 and TK: whether each RAM bank is contended. Any set may be
  chosen (20 R112, 93 I13); the other architectures do not read it. -/
  contendedBanks : Vector Bool 8
  deriving DecidableEq, Repr

/-! OPEN parameters (93 I12, I14, I15): constants with no body. -/

/-- Every field of the TK column (00 R10). OPEN. -/
opaque Config.tkArch : ArchConfig

/-- HAS_CONTENTION of Plus2A3 (00 R10). OPEN. -/
opaque Config.plus2A3HasContention : Bool

/-- CONT_START of Plus2A3 (00 R10). OPEN. -/
opaque Config.plus2A3ContStart : Option Nat

/-- HAS_FLOATING_BUS of Plus2A3 (00 R10). OPEN. -/
opaque Config.plus2A3HasFloatingBus : Bool

/-- FLOAT_START of Plus2A3 (00 R10). OPEN. -/
opaque Config.plus2A3FloatStart : Option Nat

/-- floatingBusFn of FTK and FPlus2A3 (20 R151, 93 I14): a function of FLOAT_START, the frame time and the
screen bank's contents (the listed cells of RAM and the bank number). OPEN. -/
opaque Config.floatingBusFn : FloatVariant → Option Nat → Nat → BitVec 3 → List Host.Cell → Byte

/-- WD_STEP_TABLE, rows 2 to 7 of the step-rate table, in milliseconds less one: an entry `n` stands
for the positive step time `n + 1` (47 R641, 93 I12). OPEN. -/
opaque Config.wdStepOpen : Nat → Nat → Nat

/-- The byte a FAST_MODE transfer delivers where the track or the sector number has been changed under
it to one with no data (47 R654 gives none; log 16). -/
opaque Config.noSectorByte : Nat → Nat → Byte

/-- The byte at an offset past the end of an image, from its cells, its size and the offset: a tape block
cut short before its flag byte (48 R704) and an SCL file cut short (47 R614) are read there, and no rule
gives the byte (log 28). -/
opaque Config.noImageByte : List Host.Cell → Nat → Nat → Byte

/-! Draws (93 I1, I4, I5): free values. A draw is one of these constants at the number of draws taken
before it (`State.drawCount`). -/

/-- A drawn Bool: the flags X, Y, H, PV where a rule writes `draw`, and LDAIR_PV. -/
opaque Config.drawBool : Nat → Bool

/-- A drawn byte: an 8-bit register at a host Reset. -/
opaque Config.drawByte : Nat → Byte

/-- A drawn word: a 16-bit register at a host Reset. -/
opaque Config.drawWord : Nat → Word

/-- A drawn picture: the colour of each pixel, by index `y * W + x`, until the raster paints it (10 R46,
93 I3; log 8). -/
opaque Config.drawPixel : Nat → Nat → BitVec 4

end Sys2Proof
end

