-- ==== Sys2Proof/Machine/Arch.lean ====
section
/-! DEFINITION. The architecture table (00 R10), the fixed constants (00 R11), which configurations are
admitted, and the raster geometries (45 R510). -/

namespace Sys2Proof.Machine

/-- The column of the architecture table for a tag (00 R10). HAS_AY of Spec48 is AY_ON_48K. -/
def archConfig (c : Cfg) : ArchConfig :=
  match c.arch with
  | .spec48 =>
    { tFrame := 69888, usFrame := 19968, tLine := 224, cpuHz := 3500000, intLen := 32,
      hasContention := true, contStart := some 14335, screenStart := 14336,
      hasFloatingBus := true, floatStart := some 14338, hasPaging := false,
      hasAy := c.ayOn48k, ayHz := 1773400 }
  | .spec128 =>
    { tFrame := 70908, usFrame := 19992, tLine := 228, cpuHz := 3546900, intLen := 36,
      hasContention := true, contStart := some 14361, screenStart := 14364,
      hasFloatingBus := true, floatStart := some 14364, hasPaging := true,
      hasAy := true, ayHz := 1773400 }
  | .pentagon =>
    { tFrame := 71680, usFrame := 20480, tLine := 224, cpuHz := 3500000, intLen := 32,
      hasContention := false, contStart := none, screenStart := 17988,
      hasFloatingBus := false, floatStart := none, hasPaging := true,
      hasAy := true, ayHz := 1750000 }
  | .tk => Config.tkArch
  | .plus2A3 =>
    { tFrame := 70908, usFrame := 19992, tLine := 228, cpuHz := 3546900, intLen := 32,
      hasContention := Config.plus2A3HasContention, contStart := Config.plus2A3ContStart,
      screenStart := 14364, hasFloatingBus := Config.plus2A3HasFloatingBus,
      floatStart := Config.plus2A3FloatStart, hasPaging := true,
      hasAy := true, ayHz := 1773400 }

/-- LINES, the raster lines of a frame: T_FRAME / T_LINE (00 R10). -/
def rasterLines (c : Cfg) : Nat := (archConfig c).tFrame / (archConfig c).tLine

/-- FLOAT_VARIANT (00 R10). -/
def floatVariant : Architecture → FloatVariant
  | .spec48 => .f48 | .spec128 => .f128 | .pentagon => .fPentagon
  | .tk => .fTK | .plus2A3 => .fPlus2A3

/-- CONT_LINES (00 R11). -/
def contLines : Nat := 192
/-- CONT_COLS (00 R11). -/
def contCols : Nat := 128

/-- The contention pattern `6,5,4,3,2,1,0,0` (20 R110). -/
def contPattern (k : Nat) : Nat :=
  match k with
  | 0 => 6 | 1 => 5 | 2 => 4 | 3 => 3 | 4 => 2 | 5 => 1 | _ => 0

/-- The delay function of a frame-relative T-state (20 R110). The open columns admit HAS_CONTENTION with no
CONT_START, for which no rule gives a delay: 0 then (DESIGN CHOICE, unsafe: log 5). -/
def delayAt (c : Cfg) (t : Nat) : Nat :=
  let ac := archConfig c
  if !ac.hasContention then 0
  else
    match ac.contStart with
    | none => 0
    | some start =>
      if t < start then 0
      else
        let u := t - start
        if u / ac.tLine < contLines && u % ac.tLine < contCols then
          contPattern (u % ac.tLine % 8)
        else 0

/-- The odd banks: the set 20 R112 gives, and the default of CONTENDED_BANKS. -/
def oddBanks : Vector Bool 8 := #v[false, true, false, true, false, true, false, true]

/-- `contendedPage(RAM(b))` on a machine with contention: the odd banks, on Plus2A3 and TK the set
CONTENDED_BANKS of the configuration (20 R112). -/
def bankContended (c : Cfg) (b : BitVec 3) : Bool :=
  match c.arch with
  | .tk | .plus2A3 => (archConfig c).hasContention && c.contendedBanks[b.toNat]
  | .spec48 | .spec128 | .pentagon => (archConfig c).hasContention && b.getLsbD 0

/-- `CT = floor(AY_HZ / OUT_HZ / 8)`: chip steps per sample (46 R560). -/
def chipTacts (c : Cfg) : Nat := (archConfig c).ayHz / c.outHz / 8

/-- `NS`: samples per frame (46 R580). -/
def samplesPerFrame (c : Cfg) : Nat := c.outHz * (archConfig c).usFrame / 1000000

/-- `due(i) = floor(i * T_FRAME / NS)` (46 R580). -/
def sampleDue (c : Cfg) (i : Nat) : Nat := i * (archConfig c).tFrame / samplesPerFrame c

/-- No entry is smaller than the one before it. -/
def nonDecreasing : List Nat → Bool
  | a :: b :: t => decide (a ≤ b) && nonDecreasing (b :: t)
  | _ => true

/-- The constraints on VOL_TABLE (46 R572). -/
def volTableOk (t : List Nat) : Bool :=
  t.length == 32 && t.headD 1 == 0 && nonDecreasing t && decide (3 * t.getLastD 0 ≤ 255)

/-- The configurations a run may have (46 R560, R572; 00 R12; log 18). -/
def cfgAdmitted (c : Cfg) : Bool :=
  chipTacts c != 0 && volTableOk c.volTable && decide (c.wdRateRow < 8) && c.diskByteTstates != 0

/-- A raster geometry (45 R510). -/
structure Geometry where
  width : Nat
  height : Nat
  left : Nat
  top : Nat
  deriving DecidableEq, Repr

/-- The two geometries (45 R510). -/
def geometry : ResMode → Geometry
  | .r4x3 => { width := 320, height := 240, left := 32, top := 24 }
  | .r16x9 => { width := 360, height := 200, left := 52, top := 4 }

/-- `WD_STEP_MS[row][r1r0]`: rows 0 and 1 fixed, the others OPEN and positive (47 R641). -/
def wdStepMs (row r : Nat) : Nat :=
  match row, r with
  | 0, 0 => 6 | 0, 1 => 12 | 0, 2 => 20 | 0, _ => 30
  | 1, 0 => 3 | 1, 1 => 6 | 1, 2 => 10 | 1, _ => 15
  | row, r => Config.wdStepOpen row r + 1

/-- `MsToSteps(ms) = ceil(ms * CPU_HZ / (1000 * DBT))` (47 R633). -/
def msToSteps (c : Cfg) (ms : Nat) : Nat :=
  let den := 1000 * c.diskByteTstates
  (ms * (archConfig c).cpuHz + den - 1) / den

/-- VOL_TABLE of the reset configuration: the example of 46 R572 (log 6). -/
def exampleVolTable : List Nat := 
  [0, 0, 0, 0, 0, 0, 1, 1, 1, 1, 2, 2, 3, 3, 4, 5, 6, 7, 8, 10, 12, 15,
    17, 21, 25, 30, 35, 42, 50, 60, 71, 85]

/-- The configuration at reset: the defaults of 00 R12 and 20 R112; Spec48 and R4x3 (log 4). -/
def defaultCfg : Cfg :=
  { arch := .spec48, resMode := .r4x3, fastMode := false, betadisk := true, ayOn48k := false,
    outHz := 44100, undoc := .execute, kempston := false, wdRateRow := 0,
    diskByteTstates := 112, volTable := exampleVolTable, contendedBanks := oddBanks }

end Sys2Proof.Machine
end

