-- ==== Sys2Proof/Machine/Cells.lean ====
section
/-! DEFINITION. Sparse data by key in one canonical form: a list of (key, value) pairs, keys strictly
rising, no value equal to what an unlisted key reads as. Memory is one of these (10 R43); so are an
image's bytes and the framebuffer. -/

namespace Sys2Proof.Machine

/-- The value at key `a`; `dflt` where nothing is listed. -/
def cellsGet {α : Type} (dflt : α) (l : List (Nat × α)) (a : Nat) : α :=
  match l with
  | [] => dflt
  | (k, v) :: t => if k = a then v else if a < k then dflt else cellsGet dflt t a

/-- The list with `v` at key `a`; writing the default removes the entry. -/
def cellsSet {α : Type} [DecidableEq α] (dflt : α) (l : List (Nat × α)) (a : Nat) (v : α) :
    List (Nat × α) :=
  match l with
  | [] => if v = dflt then [] else [(a, v)]
  | (k, w) :: t =>
    if a < k then (if v = dflt then (k, w) :: t else (a, v) :: (k, w) :: t)
    else if k = a then (if v = dflt then t else (a, v) :: t)
    else (k, w) :: cellsSet dflt t a v

/-- Keys strictly rising from `lo` on, no default listed. -/
def cellsFrom {α : Type} [DecidableEq α] (dflt : α) (lo : Nat) (l : List (Nat × α)) : Bool :=
  match l with
  | [] => true
  | (k, v) :: t => decide (lo ≤ k) && decide (v ≠ dflt) && cellsFrom dflt (k + 1) t

/-- The canonical form. -/
def cellsWf {α : Type} [DecidableEq α] (dflt : α) (l : List (Nat × α)) : Bool :=
  cellsFrom dflt 0 l

/-- What a byte nothing is listed for reads as (log 2, log 3). -/
def unlistedByte : Byte := 0x00

/-- Memory in canonical form: the listed bytes by physical address. -/
abbrev Memory := List Host.Cell

/-- The byte at a physical address. -/
def memGet (m : Memory) (a : Nat) : Byte := cellsGet unlistedByte m a

/-- The memory with a byte written at a physical address. -/
def memSet (m : Memory) (a : Nat) (v : Byte) : Memory := cellsSet unlistedByte m a v

/-- The canonical form of memory. -/
def Memory.wf (m : Memory) : Bool := cellsWf unlistedByte m

/-- Bytes `(address, value)` written one after another onto a memory. -/
def memSetAll (m : Memory) (ws : List Host.Cell) : Memory :=
  ws.foldl (fun acc c => memSet acc c.1 c.2) m

/-- A byte string of a disk or tape image: its length and its bytes that are not 0x00, by offset. -/
structure Image where
  size : Nat
  cells : Memory
  deriving DecidableEq, Repr

/-- The byte at an offset; a free value past the image's end (log 28). -/
def Image.byte (img : Image) (off : Nat) : Byte :=
  if off < img.size then memGet img.cells off else Config.noImageByte img.cells img.size off

/-- An image as the host hands it over, its bytes in canonical form and within its size. -/
def Image.normal (img : Image) : Image :=
  { img with cells := memSetAll [] (img.cells.filter fun c => decide (c.1 < img.size)) }

/-- The image with a byte written; an offset past its end is no byte of it. -/
def Image.write (img : Image) (off : Nat) (v : Byte) : Image :=
  if off < img.size then { img with cells := memSet img.cells off v } else img

end Sys2Proof.Machine
end

