-- ==== Sys2Proof/Machine/State.lean ====
section
/-! DEFINITION. The state of the block (10_state.md) as plain data, the ways a step can stop, and the
state after reset (70 R780). -/

namespace Sys2Proof.Machine

/-! ## Z80 -/

/-- The interrupt mode (10 R37). -/
inductive IntMode where
  | im0 | im1 | im2
  deriving DecidableEq, Repr

/-- The Z80's registers and interrupt state (10 R30 to R37). The shadow set is `a2` to `l2`. -/
structure Cpu where
  a : Byte
  f : Byte
  b : Byte
  c : Byte
  d : Byte
  e : Byte
  h : Byte
  l : Byte
  a2 : Byte
  f2 : Byte
  b2 : Byte
  c2 : Byte
  d2 : Byte
  e2 : Byte
  h2 : Byte
  l2 : Byte
  ix : Word
  iy : Word
  sp : Word
  pc : Word
  i : Byte
  r : Byte
  iff1 : Bool
  iff2 : Bool
  im : IntMode
  halted : Bool
  eiBlock : Bool
  nmiPending : Bool
  deriving DecidableEq, Repr

/-! ## Clock -/

/-- The clocks (10 R38). -/
structure Clock where
  tstates : Nat
  globalTstates : BitVec 24
  absTime : Nat
  frameCounter : Nat
  deriving DecidableEq, Repr

/-! ## Memory map -/

/-- A ROM image (10 R40). -/
inductive RomId where
  | rom0 | rom1 | trdos
  deriving DecidableEq, Repr

/-- A page reference (10 R40). -/
inductive Page where
  | rom (id : RomId)
  | ram (bank : BitVec 3)
  deriving DecidableEq, Repr

/-- A slot of the page table: its page and its contention flag `ramContended[k]` (10 R40). -/
structure Slot where
  page : Page
  contended : Bool
  deriving DecidableEq, Repr

/-- The page table, the paging latch and the TR-DOS flag (10 R40 to R42). -/
structure Paging where
  slot0 : Slot
  slot1 : Slot
  slot2 : Slot
  slot3 : Slot
  port7FFD : Byte
  trdosActive : Bool
  deriving DecidableEq, Repr

/-! ## ULA -/

/-- The ULA latches, the flash state and the host inputs read through the ULA and the joystick port
(10 R44, R45, R47). -/
structure Ula where
  borderColour : BitVec 3
  micOut : Bool
  earOut : Bool
  flashPhase : Bool
  flashCount : BitVec 4
  keyMatrix : Vector (BitVec 5) 8
  kempston : Byte
  deriving DecidableEq, Repr

/-- The framebuffer (10 R46): the pixels painted since reset, by index `y * W + x`, over the drawn picture of
number `drawn`, which gives the colour of every other pixel. Every pixel has a colour: `Framebuffer.pixel`
(log 8). -/
structure Framebuffer where
  painted : List (Nat × Option (BitVec 4))
  drawn : Nat
  deriving DecidableEq, Repr

/-! ## AY-3-8912 -/

/-- The AY's registers and runtime state (10 R48, R49); `pcmOut` is the last frame's output (46 R582). -/
structure Ay where
  selected : Byte
  regs : Vector Byte 14
  toneCnt : Vector (BitVec 16) 3
  toneBit : Vector Bool 3
  noiseCnt : Nat
  lfsr : BitVec 17
  noiseBit : Bool
  envCnt : BitVec 16
  envPos : BitVec 6
  envHeld : Bool
  sampleIndex : Nat
  pcm : List Byte
  pcmOut : List Byte
  deriving DecidableEq, Repr

/-! ## WD1793 and Betadisk -/

/-- The controller's micro-states (47 R630). -/
inductive WdState where
  | idle | t1Decide | t1StepWait | t1Settle | t1Verify
  | t2Settle | t2Search | t2Id | t2Dam | t2Read | t2Crc | t2Wgap | t2Write
  | t3Ra | t3RtIndex | t3Rt | t3WtDrq | t3WtIndex | t3Wt
  deriving DecidableEq, Repr

/-- How a status read is composed (47 R615). -/
inductive StatusType where
  | typeI | typeIIIII
  deriving DecidableEq, Repr

/-- The parser of a WRITE TRACK stream (47 R650): its mark register, how many ID bytes are still to
come, the ID bytes C, H, R, N kept, and how many data bytes are still to come. -/
structure TrackParser where
  mark : BitVec 24
  idLeft : Nat
  idField : Vector Byte 4
  dataLeft : Nat
  deriving DecidableEq, Repr

/-- The WD1793 and the Betadisk latch (10 R50, R51). `idCapture` and `fastXfer` are the model's own:
an ID is being captured in T1_VERIFY (47 R637), a FAST_MODE sector is being transferred (47 R654). -/
structure Wd where
  cmdReg : Byte
  trackReg : Byte
  sectorReg : Byte
  dataReg : Byte
  statusReg : Byte
  drq : Bool
  intrq : Bool
  state : WdState
  stepState : Nat
  dire : Bool
  dsr : Byte
  delay : Nat
  revCount : Nat
  headLoaded : Bool
  idleRevs : Nat
  statusType : StatusType
  intCond : BitVec 4
  byteIndex : Nat
  idBuf : Vector Byte 6
  markShift : BitVec 24
  lostData : Bool
  lastStep : Nat
  heldInReset : Bool
  betaSys : Byte
  idCapture : Bool
  fastXfer : Bool
  parser : TrackParser
  deriving DecidableEq, Repr

/-- The image format of a drive unit (10 R52). -/
inductive DiskKind where
  | trd | scl
  deriving DecidableEq, Repr

/-- A drive unit (10 R52). -/
structure Drive where
  available : Bool
  kind : DiskKind
  tracks : Nat
  sides : Nat
  image : Image
  writeProtected : Bool
  headTrack : Nat
  sclTrack0 : Option Image
  deriving DecidableEq, Repr

/-- The disk side of the block: the controller and the four units. -/
structure Disk where
  wd : Wd
  drives : Vector Drive 4
  deriving DecidableEq, Repr

/-! ## Tape -/

/-- STOPPED or LOADING (10 R53). -/
inductive TapeStatus where
  | stopped | loading
  deriving DecidableEq, Repr

/-- The phases of a block's pulse train (10 R53, 48 R705). -/
inductive TapePhase where
  | sync | sync1 | sync2 | data | pause
  deriving DecidableEq, Repr

/-- The tape (10 R53). `bitHalf` is true in the second pulse of a bit. -/
structure Tape where
  status : TapeStatus
  image : Option Image
  phase : TapePhase
  pos : Nat
  blockEnd : Nat
  curByte : Byte
  bitMask : Byte
  pulseCount : Nat
  hdrPulses : Nat
  bitHalf : Bool
  pulseLen : Nat
  anchor : Nat
  earBit : Bool
  deriving DecidableEq, Repr

/-! ## Host interface -/

/-- The record of `LoadSnapshot` (44 R481). `pc`, `sp`, `im` and `port7FFD` are numbers that may be out
of range; `ram` lists the bytes of the banks that are not 0x00 by physical address. -/
structure Snapshot where
  cpu : Cpu
  pc : Nat
  sp : Nat
  im : Nat
  ram : List Host.Cell
  border : BitVec 3
  port7FFD : Nat
  tstates : Option Nat
  ayRegs : Option (Vector Byte 14)
  deriving DecidableEq, Repr

/-- The host's actions, each applied at a frame boundary (44 R480). -/
inductive HostAction where
  | frameStep
  | setKeys (m : Vector (BitVec 5) 8)
  | setKempston (b : Byte)
  | pulseNmi
  | insertDisk (u : Nat) (image : Option Image) (wp : Bool)
  | ejectDisk (u : Nat)
  | tapeInsert (image : Option Image)
  | tapePlay
  | tapeStop
  | loadSnapshot (snap : Snapshot)
  | reset
  deriving DecidableEq, Repr

/-! ## The state -/

/-- The whole block as one aggregate (10 R54). The last four fields are the model's own (log 7, log 9):
the draws taken so far, the host actions still to come, whether the machine stands at a frame
boundary, and whether the last host action succeeded. -/
structure State where
  cfg : Cfg
  cpu : Cpu
  clock : Clock
  paging : Paging
  ram : Memory
  rom : Memory
  ula : Ula
  framebuffer : Framebuffer
  ay : Ay
  disk : Disk
  tape : Tape
  drawCount : Nat
  hostQueue : List HostAction
  frameBoundary : Bool
  hostOk : Bool
  deriving DecidableEq, Repr

/-- The faults: none. The block raises no fault and no synchronous exception, so the type has no
constructor and a step never answers a fault (60 R730, R731; log 19). -/
inductive Fault where
  deriving DecidableEq, Repr

/-- The ways a step answers no next state. -/
inductive Refusal where
  /-- An arm of `exec` whose instruction has no meaning yet. Raised by `exec` alone. Safe. -/
  | notModelled (mnemonic : String)
  /-- The verdict `undocumentedOpcode` with the address PC: an undocumented or undefined form under
  UNDOC_OPCODES = refuse. Raised by the meanings of the forms 30 R200 lists (44 R461, 60 R732). Safe. -/
  | undocumentedOpcode (pc : Word)
  /-- A configuration that is not admitted: CT = 0, a VOL_TABLE outside its constraints, a step-rate row
  beyond 7, or no T-states per disk byte. Raised by `step` (46 R560, R572; log 18). Safe. -/
  | configurationRefused
  /-- The bytes at PC do not decode. Raised by `step`; it never happens, since four bytes always decode
  (30 R199). Safe. -/
  | undecodable (pc : Word)
  deriving DecidableEq, Repr

/-! ## Reset (70 R780) -/

/-- The Z80 after reset: PC, I, R, the IFFs and IM as 70 R780 step 3 sets them; every other register,
which the spec draws, 0 (DESIGN CHOICE, unsafe: log 1). -/
def Cpu.reset : Cpu :=
  { a := 0, f := 0, b := 0, c := 0, d := 0, e := 0, h := 0, l := 0,
    a2 := 0, f2 := 0, b2 := 0, c2 := 0, d2 := 0, e2 := 0, h2 := 0, l2 := 0,
    ix := 0, iy := 0, sp := 0, pc := 0x0000, i := 0x00, r := 0x00,
    iff1 := false, iff2 := false, im := .im0,
    halted := false, eiBlock := false, nmiPending := false }

/-- The clocks after reset (10 R38). -/
def Clock.reset : Clock :=
  { tstates := 0, globalTstates := 0, absTime := 0, frameCounter := 0 }

/-- The page table of Spec48 for port7FFD = 0 and trdosActive = false (20 R104). -/
def Paging.reset : Paging :=
  { slot0 := { page := .rom .rom1, contended := false },
    slot1 := { page := .ram 5, contended := true },
    slot2 := { page := .ram 2, contended := false },
    slot3 := { page := .ram 0, contended := false },
    port7FFD := 0x00, trdosActive := false }

/-- The ULA after reset (10 R44, R45). The key matrix and the joystick are host inputs: no key pressed,
no direction (DESIGN CHOICE, log 10). -/
def Ula.reset : Ula :=
  { borderColour := 0, micOut := false, earOut := false, flashPhase := false, flashCount := 0,
    keyMatrix := Vector.replicate 8 0x1F, kempston := 0x00 }

/-- The AY after reset (10 R48, R49). -/
def Ay.reset : Ay :=
  { selected := 0, regs := Vector.replicate 14 0, toneCnt := Vector.replicate 3 0,
    toneBit := Vector.replicate 3 false, noiseCnt := 0, lfsr := 1, noiseBit := false,
    envCnt := 0, envPos := 0, envHeld := false, sampleIndex := 0, pcm := [], pcmOut := [] }

/-- The WRITE TRACK parser with nothing seen (log 15). -/
def TrackParser.reset : TrackParser :=
  { mark := 0, idLeft := 0, idField := Vector.replicate 4 0, dataLeft := 0 }

/-- The controller after machine reset: `ResetWD` (47 R660), betaSys 0 and held in reset (70 R780 step 7). -/
def Wd.reset : Wd :=
  { cmdReg := 0x03, trackReg := 0x00, sectorReg := 0x01, dataReg := 0x00, statusReg := 0x00,
    drq := false, intrq := false, state := .idle, stepState := 0, dire := true, dsr := 0,
    delay := 0, revCount := 0, headLoaded := false, idleRevs := 0, statusType := .typeI,
    intCond := 0, byteIndex := 0, idBuf := Vector.replicate 6 0, markShift := 0,
    lostData := false, lastStep := 0, heldInReset := true, betaSys := 0x00,
    idCapture := false, fastXfer := false, parser := TrackParser.reset }

/-- A unit with no disk, its head at track 0 (10 R52, log 26). -/
def Drive.empty : Drive :=
  { available := false, kind := .trd, tracks := 80, sides := 2, image := { size := 0, cells := [] },
    writeProtected := false, headTrack := 0, sclTrack0 := none }

/-- PILOT_LEN (48 R701). -/
def pilotLen : Nat := 2168

/-- The tape after reset, with no tape inserted (48 R715, log 26). -/
def Tape.reset : Tape :=
  { status := .stopped, image := none, phase := .sync, pos := 0, blockEnd := 0, curByte := 0,
    bitMask := 0x80, pulseCount := 0, hdrPulses := 0, bitHalf := false, pulseLen := pilotLen,
    anchor := 0, earBit := false }

/-- The framebuffer after reset at power-on: a drawn picture, nothing painted (10 R46; log 8). -/
def Framebuffer.reset : Framebuffer := { painted := [], drawn := 0 }

/-- The machine right after reset at power-on (70 R780). -/
def State.reset : State :=
  { cfg := defaultCfg, cpu := Cpu.reset, clock := Clock.reset, paging := Paging.reset,
    ram := [], rom := [], ula := Ula.reset, framebuffer := Framebuffer.reset, ay := Ay.reset,
    disk := { wd := Wd.reset, drives := Vector.replicate 4 Drive.empty }, tape := Tape.reset,
    drawCount := 0, hostQueue := [], frameBoundary := true, hostOk := true }

end Sys2Proof.Machine
end

