-- ==== Sys2Proof/Machine/Ay.lean ====
section
/-! DEFINITION. The AY-3-8912 (46_ay.md R550 to R583). -/

namespace Sys2Proof.Machine

/-- The mask of register `i` (46 R553). -/
def ayMask (i : Nat) : Byte :=
  match i with
  | 1 | 3 | 5 | 13 => 0x0F
  | 6 | 8 | 9 | 10 => 0x1F
  | _ => 0xFF

/-- `ayReg[i]`; 0xFF for an index that names no register (46 R552). -/
def Ay.reg (ay : Ay) (i : Nat) : Byte := if h : i < 14 then ay.regs[i] else 0xFF

/-- TP[c] (46 R555). -/
def Ay.tonePeriod (ay : Ay) (c : Nat) : BitVec 16 :=
  mkWord (ay.reg (2 * c + 1)) (ay.reg (2 * c))

/-- NP (46 R555). -/
def Ay.noisePeriod (ay : Ay) : Nat := (ay.reg 6).toNat

/-- EP (46 R555). -/
def Ay.envPeriod (ay : Ay) : BitVec 16 := mkWord (ay.reg 12) (ay.reg 11)

/-- shape (46 R555). -/
def Ay.shape (ay : Ay) : Nat := (ay.reg 13).toNat

/-- `max(p, 1)`. -/
def atLeastOne (p : BitVec 16) : BitVec 16 := if p = 0 then 1 else p

/-- ENV[shape][p] (46 R565). -/
def envLevel (shape p : Nat) : Nat :=
  let first := decide (p < 32)
  match shape with
  | 0 | 1 | 2 | 3 | 9 => if first then 31 - p else 0
  | 4 | 5 | 6 | 7 | 15 => if first then p else 0
  | 8 => if first then 31 - p else 63 - p
  | 10 => if first then 31 - p else p - 32
  | 11 => if first then 31 - p else 31
  | 12 => if first then p else p - 32
  | 13 => if first then p else 31
  | _ => if first then p else 63 - p

/-- The shapes that wrap (46 R566). -/
def envWraps (shape : Nat) : Bool := shape == 8 || shape == 10 || shape == 12 || shape == 14

/-- `EnvAdvance()` (46 R566). -/
def Ay.envAdvance (ay : Ay) : Ay :=
  if ay.envHeld then ay
  else if ay.envPos.toNat < 63 then { ay with envPos := ay.envPos + 1 }
  else if envWraps ay.shape then { ay with envPos := 0 }
  else { ay with envHeld := true }

/-- The tone part of a chip step for channel `c` (46 R561). -/
def Ay.toneStep (c : Fin 3) (ay : Ay) : Ay :=
  if ay.toneCnt[c] ≤ 1 then
    { ay with toneCnt := ay.toneCnt.set c (atLeastOne (ay.tonePeriod c.val)),
              toneBit := ay.toneBit.set c (!ay.toneBit[c]) }
  else { ay with toneCnt := ay.toneCnt.set c (ay.toneCnt[c] - 1) }

/-- The LFSR's next value (46 R561). -/
def lfsrNext (l : BitVec 17) : BitVec 17 := (l >>> 1) ^^^ (if l.getLsbD 0 then 0x14000 else 0)

/-- The noise part of a chip step (46 R561). -/
def Ay.noiseStep (ay : Ay) : Ay :=
  if ay.noiseCnt ≤ 1 then
    { ay with noiseCnt := 2 * max ay.noisePeriod 1, lfsr := lfsrNext ay.lfsr,
              noiseBit := (lfsrNext ay.lfsr).getLsbD 0 }
  else { ay with noiseCnt := ay.noiseCnt - 1 }

/-- The envelope part of a chip step (46 R561). -/
def Ay.envStep (ay : Ay) : Ay :=
  if ay.envCnt ≤ 1 then { ay with envCnt := atLeastOne ay.envPeriod }.envAdvance
  else { ay with envCnt := ay.envCnt - 1 }

/-- One chip step (46 R561). -/
def Ay.chipStep (ay : Ay) : Ay :=
  (((ay.toneStep 0).toneStep 1).toneStep 2).noiseStep.envStep

/-- gate[c] (46 R570). -/
def Ay.gate (ay : Ay) (c : Fin 3) : Bool :=
  (ay.toneBit[c] || (ay.reg 7).getLsbD c.val) && (ay.noiseBit || (ay.reg 7).getLsbD (3 + c.val))

/-- level[c] (46 R570). -/
def Ay.level (ay : Ay) (c : Fin 3) : Nat :=
  let vr := ay.reg (8 + c.val)
  if vr.getLsbD 4 then envLevel ay.shape ay.envPos.toNat
  else if lowNibble vr = 0 then 0 else 2 * lowNibble vr + 1

/-- amp[c] (46 R570). -/
def Ay.amp (vols : List Nat) (ay : Ay) (c : Fin 3) : Nat :=
  if ay.gate c then vols.getD (ay.level c) 0 else 0

/-- `n` chip steps, each followed by adding the three amplitudes (46 R571). -/
def Ay.accumulate (vols : List Nat) : Nat → Ay → Nat → Ay × Nat
  | 0, ay, acc => (ay, acc)
  | n + 1, ay, acc =>
    let ay := ay.chipStep
    Ay.accumulate vols n ay (acc + ay.amp vols 0 + ay.amp vols 1 + ay.amp vols 2)

/-- `GenSample()` appended to the frame buffer, and `aySampleIndex` moved on (46 R571, R581). -/
def Ay.genSample (c : Cfg) (ay : Ay) : Ay :=
  let r := Ay.accumulate c.volTable (chipTacts c) ay 0
  { r.1 with pcm := r.1.pcm ++ [byteOf (r.2 / chipTacts c)], sampleIndex := r.1.sampleIndex + 1 }

/-- Samples produced while `due(aySampleIndex) < t`, at most `fuel` of them (46 R581). -/
def Ay.samplesTo (c : Cfg) (t : Nat) : Nat → Ay → Ay
  | 0, ay => ay
  | fuel + 1, ay =>
    if ay.sampleIndex < samplesPerFrame c && sampleDue c ay.sampleIndex < t then
      Ay.samplesTo c t fuel (ay.genSample c)
    else ay

/-- `AyCatchUp(t)` (46 R581). -/
def Ay.catchUp (c : Cfg) (t : Nat) (ay : Ay) : Ay := Ay.samplesTo c t (samplesPerFrame c) ay

/-- The frame's remaining samples, at most `fuel` of them (46 R582). -/
def Ay.samplesLeft (c : Cfg) : Nat → Ay → Ay
  | 0, ay => ay
  | fuel + 1, ay =>
    if ay.sampleIndex < samplesPerFrame c then Ay.samplesLeft c fuel (ay.genSample c) else ay

/-- `AyFinishFrame()`: the frame's samples go out; zeros where HAS_AY is false (46 R582, log 23). -/
def Ay.finishFrame (c : Cfg) (ay : Ay) : Ay :=
  if (archConfig c).hasAy then
    let done := Ay.samplesLeft c (samplesPerFrame c) ay
    { done with pcmOut := done.pcm, pcm := [], sampleIndex := 0 }
  else { ay with pcmOut := List.replicate (samplesPerFrame c) 0 }

/-- Register select (46 R551). -/
def Ay.select (ay : Ay) (v : Byte) : Ay := { ay with selected := v }

/-- Register read (46 R552). -/
def Ay.read (ay : Ay) : Byte := ay.reg ay.selected.toNat

/-- `ayReg[i] <- v & MASK[i]`; register 13 restarts the envelope; an index past 13 is ignored
(46 R553, R554). -/
def Ay.setReg (ay : Ay) (i : Nat) (v : Byte) : Ay :=
  if h : i < 14 then
    let ay := { ay with regs := ay.regs.set i (v &&& ayMask i) }
    if i = 13 then { ay with envPos := 0, envCnt := atLeastOne ay.envPeriod, envHeld := false } else ay
  else ay

/-- Register write at frame time `t` (46 R554). -/
def Ay.write (c : Cfg) (t : Nat) (v : Byte) (ay : Ay) : Ay :=
  (ay.catchUp c t).setReg ay.selected.toNat v

end Sys2Proof.Machine
end

