-- ==== Sys2Proof/Machine/Tape.lean ====
section
/-! DEFINITION. The tape pulse sequencer (48_tape.md R700 to R716). -/

namespace Sys2Proof.Machine

/-! PILOT_HDR to PAUSE_LEN (48 R701); PILOT_LEN is `pilotLen`. -/

/-- PILOT_HDR. -/
def pilotHdr : Nat := 8063
/-- PILOT_DATA. -/
def pilotData : Nat := 3223
/-- SYNC1_LEN. -/
def sync1Len : Nat := 667
/-- SYNC2_LEN. -/
def sync2Len : Nat := 735
/-- BIT0_LEN. -/
def bit0Len : Nat := 855
/-- BIT1_LEN. -/
def bit1Len : Nat := 1710

/-- PAUSE_LEN. -/
def pauseLen (c : Cfg) : Nat := (archConfig c).cpuHz

/-- The tape state of a reset, a stop, an end of tape or an insertion at time `now`; the image is kept
(48 R715). -/
def Tape.cleared (now : Nat) (t : Tape) : Tape := { Tape.reset with image := t.image, anchor := now }

/-- The byte of the tape image at an offset. -/
def Tape.byteAt (t : Tape) (off : Nat) : Byte :=
  match t.image with
  | none => 0
  | some img => img.byte off

/-- `|image|`. -/
def Tape.size (t : Tape) : Nat :=
  match t.image with
  | none => 0
  | some img => img.size

/-- The length field of the block at `p`, low byte first (48 R700). -/
def Tape.blockLen (t : Tape) (p : Nat) : Nat := (t.byteAt p).toNat + 256 * (t.byteAt (p + 1)).toNat

/-- The pilot count of a block with this flag byte (48 R702). -/
def pilotCount (flag : Byte) : Nat := if flag.toNat < 0x80 then pilotHdr else pilotData

/-- The first block at or after `p` with a payload, past at most `fuel` empty ones; none at the end of
the tape (48 R704). -/
def Tape.findBlock (t : Tape) : Nat → Nat → Option Nat
  | 0, _ => none
  | fuel + 1, p =>
    if t.size < p + 2 then none
    else if t.blockLen p = 0 then t.findBlock fuel (p + 2)
    else some p

/-- `BeginBlock(p, a)`; `now` is the anchor `EndOfTape` leaves (48 R704, R707). The image's size bounds
the empty blocks skipped (log 22). -/
def Tape.beginBlock (now p a : Nat) (t : Tape) : Tape :=
  match t.findBlock (t.size + 1) p with
  | none => t.cleared now
  | some q =>
    { t with
      pos := q + 2, blockEnd := min (q + 2 + t.blockLen q) t.size,
      hdrPulses := pilotCount (t.byteAt (q + 2)), pulseCount := pilotCount (t.byteAt (q + 2)),
      phase := .sync, pulseLen := pilotLen, anchor := a }

/-- BitLen for a byte and a mask (48 R705). -/
def bitLen (cur mask : Byte) : Nat := if cur &&& mask ≠ 0 then bit1Len else bit0Len

/-- `NextPulse()` (48 R705). A last block that is cut off before its first payload byte plays no byte: its
second sync pulse leads to the pause (48 R704, R712, R716; DEDUCED, unsafe: log 28). -/
def Tape.nextPulse (c : Cfg) (now : Nat) (t : Tape) : Tape :=
  match t.phase with
  | .sync =>
    if t.pulseCount - 1 = 0 then
      { t with pulseCount := t.pulseCount - 1, phase := .sync1, pulseLen := sync1Len }
    else { t with pulseCount := t.pulseCount - 1 }
  | .sync1 => { t with phase := .sync2, pulseLen := sync2Len }
  | .sync2 =>
    let t := { t with curByte := t.byteAt t.pos, bitMask := 0x80, bitHalf := false }
    if t.pos = t.blockEnd then { t with phase := .pause, pulseLen := pauseLen c }
    else { t with phase := .data, pulseLen := bitLen t.curByte 0x80 }
  | .data =>
    if !t.bitHalf then { t with bitHalf := true }
    else if t.bitMask >>> 1 = 0 then
      if t.pos + 1 = t.blockEnd then
        { t with bitHalf := false, bitMask := 0, pos := t.pos + 1, phase := .pause,
                 pulseLen := pauseLen c }
      else
        { t with bitHalf := false, pos := t.pos + 1, curByte := t.byteAt (t.pos + 1),
                 bitMask := 0x80, pulseLen := bitLen (t.byteAt (t.pos + 1)) 0x80 }
    else
      { t with bitHalf := false, bitMask := t.bitMask >>> 1,
               pulseLen := bitLen t.curByte (t.bitMask >>> 1) }
  | .pause => t.beginBlock now t.blockEnd t.anchor

/-- One turn of the loop of `TapeCatchUp`: the end of the current pulse (48 R706). -/
def Tape.edge (c : Cfg) (now : Nat) (t : Tape) : Tape :=
  { t with anchor := t.anchor + t.pulseLen, earBit := !t.earBit }.nextPulse c now

/-- The loop of `TapeCatchUp`, at most `fuel` turns (48 R706). -/
def Tape.edgesTo (c : Cfg) (now : Nat) : Nat → Tape → Tape
  | 0, t => t
  | fuel + 1, t =>
    if t.status = .loading ∧ t.anchor + t.pulseLen ≤ now then Tape.edgesTo c now fuel (t.edge c now)
    else t

/-- `TapeCatchUp(now)`: every pulse lasts at least one T-state, so `now + 1 - anchor` turns suffice
(48 R706, log 22). -/
def Tape.catchUp (c : Cfg) (now : Nat) (t : Tape) : Tape :=
  Tape.edgesTo c now (now + 1 - t.anchor) t

/-- `TapeInsert` (48 R712): the tape and whether it succeeded. -/
def Tape.insert (c : Cfg) (now : Nat) (image : Option Image) (t : Tape) : Tape × Bool :=
  match image with
  | none => (t, false)
  | some img => ({ t.catchUp c now with image := some img.normal }.cleared now, true)

/-- `TapePlay` (48 R713). -/
def Tape.play (c : Cfg) (now : Nat) (t : Tape) : Tape :=
  let t := t.catchUp c now
  if t.status = .stopped ∧ t.image ≠ none then
    { t with status := .loading, earBit := false }.beginBlock now t.pos now
  else t

/-- `TapeStop` (48 R714). -/
def Tape.stop (c : Cfg) (now : Nat) (t : Tape) : Tape := (t.catchUp c now).cleared now

end Sys2Proof.Machine
end

