-- ==== Sys2Proof/Machine/Paging.lean ====
section
/-! DEFINITION. The memory map (20 R100 to R112): the page table as a function of its inputs, the
paging latch, TR-DOS paging, and a byte of the 64 KB space read and written through the slots. -/

namespace Sys2Proof.Machine

/-- romSel (20 R104). -/
def romSel (c : Cfg) (port7FFD : Byte) : RomId :=
  if (archConfig c).hasPaging then (if port7FFD.getLsbD 4 then .rom1 else .rom0) else .rom1

/-- contendedPage (20 R112). -/
def pageContended (c : Cfg) (p : Page) : Bool :=
  match p with
  | .rom _ => false
  | .ram b => bankContended c b

/-- A slot that holds a page, with the page's contention flag (20 R104). -/
def slotFor (c : Cfg) (p : Page) : Slot := { page := p, contended := pageContended c p }

/-- The bank of slot 3 (20 R104). -/
def topBank (c : Cfg) (port7FFD : Byte) : BitVec 3 :=
  if (archConfig c).hasPaging then port7FFD.extractLsb' 0 3 else 0

/-- The page table for a paging latch and a TR-DOS flag (20 R104). -/
def pageTable (c : Cfg) (port7FFD : Byte) (trdosActive : Bool) : Paging :=
  { slot0 := slotFor c (.rom (if trdosActive then .trdos else romSel c port7FFD)),
    slot1 := slotFor c (.ram 5),
    slot2 := slotFor c (.ram 2),
    slot3 := slotFor c (.ram (topBank c port7FFD)),
    port7FFD := port7FFD, trdosActive := trdosActive }

/-- The slot of an address: `address div 0x4000` (20 R100). -/
def slotAt (p : Paging) (a : Word) : Slot :=
  match a.toNat / 16384 with
  | 0 => p.slot0
  | 1 => p.slot1
  | 2 => p.slot2
  | _ => p.slot3

/-- The offset of an address within its page. -/
def pageOffset (a : Word) : Nat := a.toNat % 16384

/-- The physical place of a byte of RAM: bank and offset in `State.ram`. -/
def ramPlace (b : BitVec 3) (off : Nat) : Nat := b.toNat * 16384 + off

/-- The first place of a ROM image in `State.rom`. -/
def romBase : RomId → Nat
  | .rom0 => 0
  | .rom1 => 16384
  | .trdos => 32768

/-- The physical place of a byte of a ROM image in `State.rom`. -/
def romPlace (id : RomId) (off : Nat) : Nat := romBase id + off

/-- The byte an address reads as, through a page table. -/
def readThrough (p : Paging) (rom ram : Memory) (a : Word) : Byte :=
  match (slotAt p a).page with
  | .rom id => memGet rom (romPlace id (pageOffset a))
  | .ram b => memGet ram (ramPlace b (pageOffset a))

/-- Where in RAM a store to an address lands: nowhere when the slot holds a ROM (20 R105). -/
def storePlace (p : Paging) (a : Word) : Option Nat :=
  match (slotAt p a).page with
  | .rom _ => none
  | .ram b => some (ramPlace b (pageOffset a))

/-- RAM after a store through a page table (20 R105, R123). -/
def writeThrough (p : Paging) (ram : Memory) (a : Word) (v : Byte) : Memory :=
  match storePlace p a with
  | none => ram
  | some q => memSet ram q v

/-- The test an opcode fetch makes on the TR-DOS flag (20 R108). -/
def trdosAfterFetch (c : Cfg) (p : Paging) (a : Word) : Bool :=
  if !c.betadisk then p.trdosActive
  else if !p.trdosActive && a.toNat / 256 == 0x3D && romSel c p.port7FFD == .rom1 then true
  else if p.trdosActive && decide (0x4000 ≤ a.toNat) then false
  else p.trdosActive

/-- The page table an opcode fetch at `a` reads through (20 R108). -/
def fetchPaging (c : Cfg) (p : Paging) (a : Word) : Paging :=
  if trdosAfterFetch c p a = p.trdosActive then p
  else pageTable c p.port7FFD (trdosAfterFetch c p a)

/-- The page table after a write to the paging port (20 R106). -/
def pagingWrite (c : Cfg) (p : Paging) (v : Byte) : Paging :=
  if p.port7FFD.getLsbD 5 then p else pageTable c v p.trdosActive

/-- `contended(a)` (20 R111). -/
def contendedAt (c : Cfg) (p : Paging) (a : Word) : Bool :=
  (archConfig c).hasContention && (slotAt p a).contended

/-- The screen bank (20 R107). -/
def screenBank (c : Cfg) (port7FFD : Byte) : BitVec 3 :=
  if (archConfig c).hasPaging && port7FFD.getLsbD 3 then 7 else 5

/-- The byte address `a` reads as in a state. -/
def State.readByte (s : State) (a : Word) : Byte := readThrough s.paging s.rom s.ram a

/-- The state with a byte stored at address `a`; a store to a ROM is discarded (20 R105). -/
def State.writeByte (s : State) (a : Word) (v : Byte) : State :=
  { s with ram := writeThrough s.paging s.ram a v }

end Sys2Proof.Machine
end

