-- ==== Sys2Proof/Machine/Video.lean ====
section
/-! DEFINITION. The raster (45_ula_video.md R510 to R522): unit times, what a unit shows, the catch-up
of every `Advance`; and the floating bus (20 R150, R151), which reads the same bytes. -/

namespace Sys2Proof.Machine

/-- The offset of `bitmapByte(y, c)` in the screen bank (45 R519). -/
def bitmapOffset (y c : Nat) : Nat := y / 64 * 2048 + y % 8 * 256 + y / 8 % 8 * 32 + c

/-- The offset of `attrByte(y, c)` in the screen bank (45 R519). -/
def attrOffset (y c : Nat) : Nat := 0x1800 + y / 8 * 32 + c

/-- `bitmapByte(y, c)` (45 R519). -/
def bitmapByte (ram : Memory) (bank : BitVec 3) (y c : Nat) : Byte :=
  memGet ram (ramPlace bank (bitmapOffset y c))

/-- `attrByte(y, c)` (45 R519). -/
def attrByte (ram : Memory) (bank : BitVec 3) (y c : Nat) : Byte :=
  memGet ram (ramPlace bank (attrOffset y c))

/-- The colour of pixel `i` of a group, from its bitmap byte, its attribute byte and the flash phase
(45 R513). -/
def pixelColour (b a : Byte) (flash : Bool) (i : Nat) : BitVec 4 :=
  let on := b.getLsbD (7 - i) ^^ (a.getLsbD 7 && flash)
  BitVec.ofBool (a.getLsbD 6) ++ (if on then a.extractLsb' 0 3 else a.extractLsb' 3 3)

/-- The raster's constants: geometry and frame times. -/
structure Raster where
  geo : Geometry
  screenStart : Nat
  tLine : Nat
  deriving DecidableEq, Repr

/-- The raster of a configuration (45 R510, R518). -/
def rasterOf (c : Cfg) : Raster :=
  { geo := geometry c.resMode, screenStart := (archConfig c).screenStart, tLine := (archConfig c).tLine }

/-- The T-states from the first pixel of row 0 to T-state `u`; none before it. A T-state of row `y` and
half-column `h` (pixels `2h` and `2h + 1`) is `y * T_LINE + h` in this count (45 R511). -/
def rasterCount (r : Raster) (u : Nat) : Option Nat :=
  if u + r.geo.top * r.tLine + r.geo.left / 2 < r.screenStart then none
  else some (u + r.geo.top * r.tLine + r.geo.left / 2 - r.screenStart)

/-- The rows with a pixel at count `w`: those `y < H` with `y * T_LINE <= w < y * T_LINE + W / 2`. There
is at most one where a line is no shorter than a row (log 21). -/
def rowsAt (r : Raster) (w : Nat) : List Nat :=
  let half := r.geo.width / 2
  if r.tLine = 0 then (if w < half then List.range r.geo.height else [])
  else
    (List.range ((half - 1) / r.tLine + 1)).filterMap fun j =>
      let y := w / r.tLine - j
      if j ≤ w / r.tLine && y < r.geo.height && w - y * r.tLine < half then some y else none

/-- What the raster reads (45 R516). -/
structure RasterInput where
  ram : Memory
  bank : BitVec 3
  border : BitVec 3
  flash : Bool
  deriving DecidableEq, Repr

/-- A pixel painted, at index `y * W + x` (10 R46). -/
def paintPixel (r : Raster) (fb : Framebuffer) (x y : Nat) (colour : BitVec 4) : Framebuffer :=
  { fb with painted := cellsSet none fb.painted (y * r.geo.width + x) (some colour) }

/-- The colour of the pixel at index `y * W + x`: what the raster last painted there, or its colour in the
drawn picture (10 R46, 93 I3; log 8). -/
def Framebuffer.pixel (fb : Framebuffer) (i : Nat) : BitVec 4 :=
  (cellsGet none fb.painted i).getD (Config.drawPixel fb.drawn i)

/-- The unit of row `y` and half-column `h` painted: nothing inside the screen but at the first
T-state of a group, which paints the group's 8 pixels; 2 border pixels elsewhere (45 R511, R513, R514). -/
def paintUnit (r : Raster) (inp : RasterInput) (y h : Nat) (fb : Framebuffer) : Framebuffer :=
  let x := 2 * h
  if r.geo.top ≤ y && y < r.geo.top + 192 && r.geo.left ≤ x && x < r.geo.left + 256 then
    let dx := x - r.geo.left
    if dx % 8 = 0 then
      let sl := y - r.geo.top
      let b := bitmapByte inp.ram inp.bank sl (dx / 8)
      let a := attrByte inp.ram inp.bank sl (dx / 8)
      (List.range 8).foldl (fun fb i => paintPixel r fb (x + i) y (pixelColour b a inp.flash i)) fb
    else fb
  else
    let colour := 0#1 ++ inp.border
    paintPixel r (paintPixel r fb x y colour) (x + 1) y colour

/-- Every unit whose time is T-state `u` painted (45 R511, R517). -/
def paintAt (r : Raster) (inp : RasterInput) (u : Nat) (fb : Framebuffer) : Framebuffer :=
  match rasterCount r u with
  | none => fb
  | some w => (rowsAt r w).foldl (fun fb y => paintUnit r inp y (w - y * r.tLine) fb) fb

/-- Every unit with a time in `[t0, t0 + k)` painted (45 R515). -/
def paintSpan (r : Raster) (inp : RasterInput) (t0 k : Nat) (fb : Framebuffer) : Framebuffer :=
  (List.range k).foldl (fun fb j => paintAt r inp (t0 + j) fb) fb

/-- What the raster reads in a state (45 R516). -/
def State.rasterInput (s : State) : RasterInput :=
  { ram := s.ram, bank := screenBank s.cfg s.paging.port7FFD, border := s.ula.borderColour,
    flash := s.ula.flashPhase }

/-- The clocks `k` T-states on (20 R120). -/
def Clock.advance (k : Nat) (c : Clock) : Clock :=
  { c with tstates := c.tstates + k, globalTstates := c.globalTstates + BitVec.ofNat 24 k,
           absTime := c.absTime + k }

/-- `Advance(k)` (20 R120, 45 R515). -/
def advance (k : Nat) (s : State) : State :=
  { s with
    framebuffer := paintSpan (rasterOf s.cfg) s.rasterInput s.clock.tstates k s.framebuffer,
    clock := s.clock.advance k }

/-- The source's raster states (45 R512). -/
inductive DrawStatus where
  | topBorderBlank | topBorder | mainScreenBlank | leftBorder | lineDrawSync | lineDraw | rightBorder
  | bottomBorderBlank | bottomBorder | bottomBorderFps | blank
  deriving DecidableEq, Repr

/-- DrawStatus as a function of the frame time: it is never stored and decides nothing (45 R512). Where two
lines of the table hold at one time, which is answered is the model's (DESIGN CHOICE, unsafe only for a claim
about DrawStatus itself: log 30): `mainScreenBlank`, not `topBorder`, in the blank before the first screen
row, and `lineDrawSync`, not `lineDraw`, at its instant. `bottomBorderFps`, whose boundary the table leaves
open, paints as `bottomBorder` and is never answered. -/
def drawStatus (c : Cfg) (t : Nat) : DrawStatus :=
  let r := rasterOf c
  match rasterCount r t with
  | none => .topBorderBlank
  | some w =>
    let y := w / r.tLine
    let x := w % r.tLine
    if y < r.geo.top then
      (if y + 1 = r.geo.top && r.geo.width / 2 ≤ x then .mainScreenBlank else .topBorder)
    else if y < r.geo.top + 192 then
      if x < r.geo.left / 2 then .leftBorder
      else if x = r.geo.left / 2 then .lineDrawSync
      else if x < r.geo.left / 2 + 128 then .lineDraw
      else if x < r.geo.width / 2 then .rightBorder
      else if y + 1 = r.geo.top + 192 then .bottomBorderBlank
      else .mainScreenBlank
    else if w < (r.geo.height - 1) * r.tLine + r.geo.width / 2 then .bottomBorder
    else .blank

/-- `FloatingBus(ts)` of F48 and F128 (20 R150). -/
def floatingDisplay (c : Cfg) (ram : Memory) (bank : BitVec 3) (ts : Nat) : Byte :=
  let ac := archConfig c
  match ac.floatStart with
  | none => 0xFF
  | some start =>
    if !ac.hasFloatingBus || ts < start then 0xFF
    else
      let y := (ts - start) / ac.tLine
      let x := (ts - start) % ac.tLine
      let col := 2 * (x / 8)
      if y < contLines && x < contCols then
        match x % 8 with
        | 0 => bitmapByte ram bank y col
        | 1 => attrByte ram bank y col
        | 2 => bitmapByte ram bank y (col + 1)
        | 3 => attrByte ram bank y (col + 1)
        | _ => 0xFF
      else 0xFF

/-- `FloatingBus(ts)` of FTK and FPlus2A3: the open function, or 0xFF where HAS_FLOATING_BUS is false
(20 R151; 92 D70, 93 I24). -/
def floatingOpen (s : State) (ts : Nat) : Byte :=
  let ac := archConfig s.cfg
  if ac.hasFloatingBus then
    Config.floatingBusFn (floatVariant s.cfg.arch) ac.floatStart ts
      (screenBank s.cfg s.paging.port7FFD) s.ram
  else 0xFF

/-- `FloatingBus(ts)` (20 R150, R151). -/
def floatingBus (s : State) (ts : Nat) : Byte :=
  match floatVariant s.cfg.arch with
  | .f48 | .f128 => floatingDisplay s.cfg s.ram (screenBank s.cfg s.paging.port7FFD) ts
  | .fPentagon => 0xFF
  | .fTK | .fPlus2A3 => floatingOpen s ts

end Sys2Proof.Machine
end

