-- ==== Sys2Proof/Machine/Wd.lean ====
section
/-! DEFINITION. The WD1793, the Betadisk interface and the drives (47_wd1793.md R600 to R672). -/

namespace Sys2Proof.Machine

/-! ## Images and sectors (47 R610 to R614) -/

/-- The geometry of a TRD type byte: tracks and sides (47 R610). -/
def trdGeometry (ty : Byte) : Option (Nat × Nat) :=
  if ty = 0x16 then some (80, 2)
  else if ty = 0x17 then some (40, 2)
  else if ty = 0x18 then some (80, 1)
  else if ty = 0x19 then some (40, 1)
  else none

/-- The offset of the TRD type byte (47 R610). -/
def trdTypeOffset : Nat := 2275

/-- `TrdOffset(c, s, R)` (47 R611). -/
def trdOffset (sides c s r : Nat) : Nat := ((c * sides + s) * 16 + (r - 1)) * 256

/-- The ASCII characters `SINCLAIR` (47 R612). -/
def sclMagic : List Byte := [0x53, 0x49, 0x4E, 0x43, 0x4C, 0x41, 0x49, 0x52]

/-- The image begins with the SCL magic (47 R612). -/
def isScl (img : Image) : Bool :=
  decide (8 ≤ img.size) && (List.range 8).map img.byte == sclMagic

/-- N, the file count of an SCL image (47 R612). -/
def sclCount (img : Image) : Nat := (img.byte 8).toNat

/-- An SCL image is valid (47 R612). -/
def sclValid (img : Image) : Bool :=
  decide (sclCount img ≤ 128) && decide (9 + 14 * sclCount img ≤ img.size)

/-- The sector count of SCL file `i` (47 R612). -/
def sclSectors (img : Image) (i : Nat) : Nat := (img.byte (9 + 14 * i + 13)).toNat

/-- The sectors of the first `n` SCL files. -/
def sclSum (img : Image) : Nat → Nat
  | 0 => 0
  | n + 1 => sclSum img n + sclSectors img n

/-- The directory entry of SCL file `i` on track 0 (47 R613; log 17). -/
def sclEntry (img : Image) (i : Nat) : List Host.Cell :=
  let start := 16 + sclSum img i
  (List.range 14).map (fun k => (16 * i + k, img.byte (9 + 14 * i + k)))
    ++ [(16 * i + 14, byteOf (start % 16)), (16 * i + 15, byteOf (start / 16))]

/-- The disk-information bytes of track 0 (47 R613; log 17). -/
def sclInfo (img : Image) : List Host.Cell :=
  let free := 16 + sclSum img (sclCount img)
  let left : Word := BitVec.ofNat 16 2560 - BitVec.ofNat 16 free
  [(0x8E1, byteOf (free % 16)), (0x8E2, byteOf (free / 16)), (0x8E3, 0x16),
    (0x8E4, byteOf (sclCount img)), (0x8E5, left.extractLsb' 0 8), (0x8E6, left.extractLsb' 8 8),
    (0x8E7, 0x10)]
    ++ (List.range 9).map (fun k => (0x8EA + k, 0x20))
    ++ (List.range 8).map (fun k => (0x8F5 + k, 0x20))

/-- `SclTrack0(image)` (47 R613). -/
def sclTrack0Of (img : Image) : Image :=
  { size := 4096,
    cells := memSetAll [] ((List.range (sclCount img)).flatMap (sclEntry img) ++ sclInfo img) }

/-- `SectorData(c, s, R, i)` (47 R611, R614). -/
def sectorData (d : Drive) (c s r i : Nat) : Byte :=
  match d.kind with
  | .trd => d.image.byte (trdOffset d.sides c s r + i)
  | .scl =>
    let l := (c * 2 + s) * 16 + (r - 1)
    if l < 16 then
      match d.sclTrack0 with
      | some t0 => t0.byte (l * 256 + i)
      | none => 0x00
    else
      let off := (l - 16) * 256 + i
      let n := sclCount d.image
      if off < 256 * sclSum d.image n then d.image.byte (9 + 14 * n + off) else 0x00

/-! ## Derived signals and the track (47 R604, R620 to R622) -/

/-- u, the selected unit (47 R603). -/
def Wd.unit (w : Wd) : Fin 4 := (w.betaSys.extractLsb' 0 2).toFin

/-- side (47 R604). -/
def Wd.side (w : Wd) : Nat := if w.betaSys.getLsbD 4 then 0 else 1

/-- D, the selected unit's drive. -/
def Disk.drive (d : Disk) : Drive := d.drives[d.wd.unit]

/-- ready (47 R604). -/
def Disk.ready (d : Disk) : Bool := d.drive.available

/-- cyl (47 R604). -/
def Disk.cyl (d : Disk) : Nat := d.drive.headTrack

/-- TR00 (47 R604). -/
def Disk.tr00 (d : Disk) : Bool := d.drive.headTrack == 0

/-- formatted (47 R604). -/
def Disk.formatted (d : Disk) : Bool :=
  d.ready && decide (d.cyl < d.drive.tracks) && decide (d.wd.side < d.drive.sides)

/-- The bytes of a revolution (47 R620). -/
def trackLen : Nat := 6250

/-- `pos(k)` (47 R620). -/
def diskPos (k : Nat) : Nat := k % trackLen

/-- `IndexActive` at absolute time `now` (47 R620). -/
def Disk.indexActive (c : Cfg) (now : Nat) (d : Disk) : Bool :=
  d.ready && decide (diskPos (now / c.diskByteTstates) < 63)

/-- An index pulse at step `k` (47 R620). -/
def Disk.indexPulse (k : Nat) (d : Disk) : Bool := d.ready && diskPos k == 0

/-- The byte at offset `o` of sector record `i` (47 R621). -/
def recordByte (d : Drive) (cyl side i o : Nat) : Byte :=
  if o < 12 then 0x00
  else if o < 15 then 0xA1
  else if o = 15 then 0xFE
  else if o = 16 then byteOf cyl
  else if o = 17 then byteOf side
  else if o = 18 then byteOf (i + 1)
  else if o = 19 then 0x01
  else if o < 22 then 0x00
  else if o < 44 then 0x4E
  else if o < 56 then 0x00
  else if o < 59 then 0xA1
  else if o = 59 then 0xFB
  else if o < 316 then sectorData d cyl side (i + 1) (o - 60)
  else if o < 318 then 0x00
  else 0x4E

/-- The byte at a position of the selected track (47 R621). -/
def Disk.trackByteAt (d : Disk) (p : Nat) : Byte :=
  if !d.ready then 0x00
  else if !d.formatted then 0x4E
  else if 80 ≤ p && p < 6032 then
    recordByte d.drive d.cyl d.wd.side ((p - 80) / 372) ((p - 80) % 372)
  else 0x4E

/-- `TrackByte(k)` (47 R622). -/
def Disk.trackByte (k : Nat) (d : Disk) : Byte := d.trackByteAt (diskPos k)

/-- The mark register holds the address mark prefix (47 R622). -/
def markReady (m : BitVec 24) : Bool := m == 0xA1A1A1

/-- A data mark byte (47 R622). -/
def isDataMark (b : Byte) : Bool := b == 0xF8 || b == 0xF9 || b == 0xFA || b == 0xFB

/-- A byte shifted into a mark register (47 R622). -/
def shiftMark (m : BitVec 24) (b : Byte) : BitVec 24 := m.extractLsb' 0 16 ++ b

/-! ## The engine's pieces -/

/-- A change of the controller's registers. -/
def Disk.setWd (f : Wd → Wd) (d : Disk) : Disk := { d with wd := f d.wd }

/-- The selected drive replaced. -/
def Disk.setDrive (d : Disk) (dr : Drive) : Disk :=
  { d with drives := d.drives.set d.wd.unit dr }

/-- A status bit set. -/
def statusBit (s : Byte) (i : Nat) : Byte := s ||| (1#8 <<< i)

/-- `End()` (47 R634). -/
def Wd.finish (w : Wd) : Wd :=
  { w with statusReg := w.statusReg &&& 0xFE, drq := false, intrq := true, state := .idle,
           idleRevs := 0 }

/-- LOST DATA latched (47 R635). -/
def Wd.lose (w : Wd) : Wd := { w with lostData := true, statusReg := statusBit w.statusReg 2 }

/-- `fail` of the ID search (47 R637). -/
def Wd.searchFail (w : Wd) : Wd := { w with statusReg := statusBit w.statusReg 4 }.finish

/-- A byte delivered to the host (47 R635). -/
def Wd.deliver (b : Byte) (w : Wd) : Wd :=
  let w := if w.drq then w.lose else w
  { w with dataReg := b, drq := true }

/-- `Take()` but for its last part, the request for the next byte, which the state that takes the byte
raises (47 R635; DEDUCED, safe: log 29): the byte taken, and the controller with LOST DATA latched if it was
late. -/
def Wd.take (w : Wd) : Byte × Wd := if w.drq then (0x00, w.lose) else (w.dataReg, w)

/-- The command is a SEEK or a RESTORE. -/
def isSeekOrRestore (cmd : Byte) : Bool := cmd.toNat / 16 == 0 || cmd.toNat / 16 == 1

/-- The command is a RESTORE. -/
def isRestore (cmd : Byte) : Bool := cmd.toNat / 16 == 0

/-- The command is a WRITE SECTOR. -/
def isWriteSector (cmd : Byte) : Bool := cmd.toNat / 32 == 5

/-- The command is a WRITE TRACK. -/
def isWriteTrack (cmd : Byte) : Bool := cmd.toNat / 16 == 15

/-- The command is a READ ADDRESS. -/
def isReadAddress (cmd : Byte) : Bool := cmd.toNat / 16 == 12

/-- The command is a READ TRACK. -/
def isReadTrack (cmd : Byte) : Bool := cmd.toNat / 16 == 14

/-- The settle time of a verify, in byte steps (47 R639). -/
def verifySettle (c : Cfg) : Nat := if c.fastMode then 0 else msToSteps c 15

/-- `Settle(e)` (47 R631). -/
def settleSteps (c : Cfg) (e headLoaded : Bool) : Nat :=
  if c.fastMode then 0 else if e || !headLoaded then msToSteps c 15 else 0

/-- The step time of the command, in byte steps (47 R639, R641). -/
def stepSteps (c : Cfg) (cmd : Byte) : Nat :=
  msToSteps c (wdStepMs c.wdRateRow (cmd.toNat % 4))

/-- `CommandStart(v)`: what every command sets (47 R631). -/
def Wd.commandCommon (v : Byte) (w : Wd) : Wd :=
  { w with
    cmdReg := v, intrq := false, drq := false, lostData := false, statusReg := 0x01,
    idleRevs := 0, revCount := 0, markShift := 0, stepState := 0, byteIndex := 0, intCond := 0,
    idCapture := false, fastXfer := false, parser := TrackParser.reset }

/-- `CommandStart(v)` of a Type I command (47 R631). -/
def Wd.startTypeI (v : Byte) (w : Wd) : Wd :=
  let w := { w with statusType := .typeI, headLoaded := v.getLsbD 3 }
  let w := if isRestore v then { w with trackReg := 0xFF, dataReg := 0x00 } else w
  let w := if isSeekOrRestore v then { w with dsr := w.dataReg } else w
  let w :=
    if v.toNat / 32 = 2 then { w with dire := true }
    else if v.toNat / 32 = 3 then { w with dire := false }
    else w
  { w with state := .t1Decide }

/-- `CommandStart(v)` of a Type II or III command (47 R631). -/
def Wd.startTypeIIIII (c : Cfg) (ready protected_ : Bool) (v : Byte) (w : Wd) : Wd :=
  let w := { w with statusType := .typeIIIII }
  if !ready then w.finish
  else if (isWriteSector v || isWriteTrack v) && protected_ then
    { w with statusReg := statusBit w.statusReg 6 }.finish
  else { w with delay := settleSteps c (v.getLsbD 2) w.headLoaded, state := .t2Settle }

/-- `CommandStart(v)` (47 R631). -/
def Disk.commandStart (c : Cfg) (v : Byte) (d : Disk) : Disk :=
  d.setWd fun w =>
    if !v.getLsbD 7 then (w.commandCommon v).startTypeI v
    else (w.commandCommon v).startTypeIIIII c d.ready d.drive.writeProtected v

/-- FORCE INTERRUPT (47 R651). -/
def Wd.forceInterrupt (v : Byte) (w : Wd) : Wd :=
  let w :=
    if w.state ≠ .idle then
      { w with statusReg := w.statusReg &&& 0xFE, state := .idle, drq := false }
    else { w with statusType := .typeI, statusReg := 0x00 }
  { w with intCond := v.extractLsb' 0 4, cmdReg := v, intrq := v.getLsbD 3, idleRevs := 0 }

/-- `CommandWrite(v)` (47 R631). -/
def Disk.commandWrite (c : Cfg) (v : Byte) (d : Disk) : Disk :=
  if v.toNat / 16 = 13 then d.setWd (Wd.forceInterrupt v)
  else if d.wd.state ≠ .idle then d
  else d.commandStart c v

/-! ## Micro-states (47 R639 to R650) -/

/-- `VerifyOrEnd` (47 R639). -/
def Wd.verifyOrEnd (c : Cfg) (w : Wd) : Wd :=
  if !w.cmdReg.getLsbD 2 then w.finish
  else { w with headLoaded := true, delay := verifySettle c, state := .t1Settle }

/-- The head moved one track, and the wait after it (47 R639). -/
def Disk.stepHead (c : Cfg) (d : Disk) : Disk :=
  let w := d.wd
  let w :=
    if isSeekOrRestore w.cmdReg || w.cmdReg.getLsbD 4 then
      { w with trackReg := w.trackReg + (if w.dire then 1 else 255) }
    else w
  let dr := d.drive
  let d := d.setDrive
    { dr with headTrack := if w.dire then min (dr.headTrack + 1) 83 else dr.headTrack - 1 }
  { d with wd := { w with stepState := 1, delay := stepSteps c w.cmdReg, state := .t1StepWait } }

/-- T1_DECIDE past the comparison: at track 0 going out, else one step (47 R639). -/
def Disk.stepOrStop (c : Cfg) (d : Disk) : Disk :=
  if !d.wd.dire && d.tr00 then
    d.setWd fun w => { w with trackReg := 0 }.verifyOrEnd c
  else d.stepHead c

/-- T1_DECIDE (47 R639). -/
def Disk.t1Decide (c : Cfg) (d : Disk) : Disk :=
  let w := d.wd
  if isSeekOrRestore w.cmdReg then
    if w.trackReg = w.dsr then
      if isRestore w.cmdReg && !d.tr00 then d.setWd Wd.searchFail
      else d.setWd (Wd.verifyOrEnd c)
    else
      (d.setWd fun w => { w with dire := decide (w.trackReg < w.dsr) }).stepOrStop c
  else if w.stepState = 1 then d.setWd (Wd.verifyOrEnd c)
  else d.stepOrStop c

/-- A delay counted down by one (47 R633). -/
def Wd.countDown (w : Wd) : Wd := { w with delay := w.delay - 1 }

/-- T1_STEP_WAIT (47 R639). -/
def Wd.t1StepWait (w : Wd) : Wd :=
  let w := w.countDown
  if w.delay = 0 then { w with state := .t1Decide } else w

/-- T1_SETTLE (47 R639). -/
def Wd.t1Settle (w : Wd) : Wd :=
  let w := w.countDown
  if w.delay = 0 then { w with revCount := 0, idCapture := false, state := .t1Verify } else w

/-- An ID byte stored (47 R637). -/
def Wd.storeId (b : Byte) (w : Wd) : Wd :=
  { w with
    idBuf := if h : w.byteIndex < 6 then w.idBuf.set w.byteIndex b else w.idBuf,
    byteIndex := w.byteIndex + 1 }

/-- T1_VERIFY: the ID search with the capture in place (47 R637, R639; log 15). -/
def Wd.t1Verify (ready : Bool) (b : Byte) (w : Wd) : Wd :=
  if w.idCapture then
    let w := w.storeId b
    if w.byteIndex = 6 then
      if w.idBuf[0] = w.trackReg then { w with idCapture := false }.finish
      else { w with idCapture := false }
    else w
  else if !ready || decide (5 ≤ w.revCount) then w.searchFail
  else if markReady w.markShift && b == 0xFE then { w with byteIndex := 0, idCapture := true }
  else w

/-- T2_SETTLE, and where each command goes from it (47 R646 to R650). -/
def Wd.t2Settle (w : Wd) : Wd :=
  let w := w.countDown
  if w.delay = 0 then
    let w := { w with headLoaded := true, revCount := 0 }
    if isReadTrack w.cmdReg then { w with state := .t3RtIndex }
    else if isWriteTrack w.cmdReg then { w with drq := true, stepState := 0, state := .t3WtDrq }
    else { w with state := .t2Search }
  else w

/-- T2_SEARCH (47 R637, R648). -/
def Wd.t2Search (ready : Bool) (b : Byte) (w : Wd) : Wd :=
  if !ready || decide (5 ≤ w.revCount) then w.searchFail
  else if markReady w.markShift && b == 0xFE then
    { w with byteIndex := 0, state := if isReadAddress w.cmdReg then .t3Ra else .t2Id }
  else w

/-- The ID matches the command (47 R646). -/
def Wd.idMatches (w : Wd) : Bool :=
  w.idBuf[0] == w.trackReg && w.idBuf[2] == w.sectorReg
    && (!w.cmdReg.getLsbD 1 || w.idBuf[1] == zeroOrOne (w.cmdReg.getLsbD 3))
where
  /-- A Bool as a byte. -/
  zeroOrOne (b : Bool) : Byte := if b then 1 else 0

/-- T2_ID (47 R646, R647). -/
def Wd.t2Id (b : Byte) (w : Wd) : Wd :=
  let w := w.storeId b
  if w.byteIndex = 6 then
    if w.idMatches then
      if isWriteSector w.cmdReg then { w with drq := true, stepState := 0, state := .t2Wgap }
      else { w with stepState := 0, state := .t2Dam }
    else { w with state := .t2Search }
  else w

/-- T2_DAM (47 R646). -/
def Wd.t2Dam (b : Byte) (w : Wd) : Wd :=
  let w := { w with stepState := w.stepState + 1 }
  if markReady w.markShift && isDataMark b then { w with byteIndex := 0, state := .t2Read }
  else if 43 < w.stepState then { w with state := .t2Search }
  else w

/-- The byte a FAST_MODE sector delivers (47 R654; log 16). -/
def Disk.fastByte (d : Disk) : Byte :=
  let r := d.wd.sectorReg.toNat
  if d.formatted && decide (1 ≤ r) && decide (r ≤ 16) then
    sectorData d.drive d.cyl d.wd.side r d.wd.byteIndex
  else Config.noSectorByte r d.wd.byteIndex

/-- T2_READ (47 R646, R654). -/
def Disk.t2Read (b : Byte) (d : Disk) : Disk :=
  let b := if d.wd.fastXfer then d.fastByte else b
  d.setWd fun w =>
    let w := w.deliver b
    let w := { w with byteIndex := w.byteIndex + 1 }
    if w.byteIndex = 256 then { w with stepState := 0, state := .t2Crc } else w

/-- NextSector (47 R646, R654). -/
def Wd.nextSector (c : Cfg) (formatted : Bool) (w : Wd) : Wd :=
  if c.fastMode then
    if formatted && decide (1 ≤ w.sectorReg.toNat) && decide (w.sectorReg.toNat ≤ 16) then
      let w := { w with byteIndex := 0, fastXfer := true }
      if isWriteSector w.cmdReg then { w with drq := true, state := .t2Write }
      else { w with state := .t2Read }
    else w.searchFail
  else { w with revCount := 0, state := .t2Search }

/-- T2_CRC (47 R636, R646). -/
def Wd.t2Crc (c : Cfg) (formatted : Bool) (w : Wd) : Wd :=
  let w := { w with stepState := w.stepState + 1 }
  if w.stepState = 2 then
    if w.lostData || !w.cmdReg.getLsbD 4 then w.finish
    else { w with sectorReg := w.sectorReg + 1 }.nextSector c formatted
  else w

/-- T2_WGAP (47 R647). -/
def Wd.t2Wgap (w : Wd) : Wd :=
  let w := { w with stepState := w.stepState + 1 }
  if w.stepState = 11 && w.drq then w.lose.finish
  else if w.stepState = 22 then { w with byteIndex := 0, state := .t2Write }
  else w

/-- Byte `i` of sector `r` of the selected track written to the image; discarded where the track is not
formatted, the image is no TRD or no sector has that number (47 R611; log 16). -/
def Disk.writeSectorByte (r i : Nat) (v : Byte) (d : Disk) : Disk :=
  let dr := d.drive
  if d.formatted && dr.kind == .trd && decide (1 ≤ r) && decide (r ≤ 16) then
    d.setDrive { dr with image := dr.image.write (trdOffset dr.sides d.cyl d.wd.side r + i) v }
  else d

/-- T2_WRITE: no request is raised after the 256th byte, and DRQ stays as `Take` left it (47 R647, R654;
log 29). -/
def Disk.t2Write (d : Disk) : Disk :=
  let i := d.wd.byteIndex
  let r := if d.wd.fastXfer then d.wd.sectorReg.toNat else d.wd.idBuf[2].toNat
  let taken := d.wd.take
  let w := { taken.2 with byteIndex := i + 1, drq := taken.2.drq || decide (i + 1 ≠ 256) }
  let w := if i + 1 = 256 then { w with stepState := 0, state := .t2Crc } else w
  { d.writeSectorByte r i taken.1 with wd := w }

/-- T3_RA (47 R648). -/
def Wd.t3Ra (b : Byte) (w : Wd) : Wd :=
  let w := (w.deliver b).storeId b
  if w.byteIndex = 6 then { w with sectorReg := w.idBuf[0] }.finish else w

/-- T3_RT (47 R649). -/
def Wd.t3Rt (b : Byte) (w : Wd) : Wd :=
  let w := w.deliver b
  let w := { w with byteIndex := w.byteIndex + 1 }
  if w.byteIndex = trackLen then w.finish else w

/-- T3_RT_INDEX (47 R649). -/
def Wd.t3RtIndex (index : Bool) (b : Byte) (w : Wd) : Wd :=
  if index then { w with byteIndex := 0, state := .t3Rt }.t3Rt b else w

/-- T3_WT_DRQ (47 R650). -/
def Wd.t3WtDrq (w : Wd) : Wd :=
  let w := { w with stepState := w.stepState + 1 }
  if w.stepState = 3 then (if w.drq then w.lose.finish else { w with state := .t3WtIndex }) else w

/-- The bytes a WRITE TRACK byte stands for (47 R650). -/
def emitBytes (v : Byte) : List Byte :=
  if v = 0xF5 then [0xA1]
  else if v = 0xF6 then [0xC2]
  else if v = 0xF7 then [0x00, 0x00]
  else [v]

/-- One byte of the written stream fed to the parser (47 R650; log 15). -/
def Disk.feed (d : Disk) (v : Byte) : Disk :=
  let p := d.wd.parser
  let mark := shiftMark p.mark v
  if 0 < p.idLeft then
    d.setWd fun w =>
      { w with parser :=
        { p with mark := mark, idLeft := p.idLeft - 1,
                 idField := if h : 4 - p.idLeft < 4 then p.idField.set (4 - p.idLeft) v else p.idField } }
  else if 0 < p.dataLeft then
    (d.writeSectorByte p.idField[2].toNat (256 - p.dataLeft) v).setWd fun w =>
      { w with parser := { p with mark := mark, dataLeft := p.dataLeft - 1 } }
  else if markReady p.mark && v == 0xFE then
    d.setWd fun w => { w with parser := { p with mark := mark, idLeft := 4 } }
  else if markReady p.mark && isDataMark v then
    d.setWd fun w => { w with parser := { p with mark := mark, dataLeft := 256 } }
  else d.setWd fun w => { w with parser := { p with mark := mark } }

/-- T3_WT (47 R650). -/
def Disk.t3Wt (d : Disk) : Disk :=
  let taken := d.wd.take
  let d := (emitBytes taken.1).foldl Disk.feed { d with wd := { taken.2 with drq := true } }
  d.setWd fun w =>
    let w := { w with byteIndex := w.byteIndex + 1 }
    if w.byteIndex = trackLen then w.finish else w

/-- T3_WT_INDEX (47 R650). -/
def Disk.t3WtIndex (index : Bool) (d : Disk) : Disk :=
  if index then
    (d.setWd fun w => { w with byteIndex := 0, parser := TrackParser.reset, state := .t3Wt }).t3Wt
  else d

/-- The action of the current micro-state with byte `b` (47 R632). -/
def Disk.act (c : Cfg) (index : Bool) (b : Byte) (d : Disk) : Disk :=
  match d.wd.state with
  | .idle => d
  | .t1Decide => d.t1Decide c
  | .t1StepWait => d.setWd Wd.t1StepWait
  | .t1Settle => d.setWd Wd.t1Settle
  | .t1Verify => d.setWd (Wd.t1Verify d.ready b)
  | .t2Settle => d.setWd Wd.t2Settle
  | .t2Search => d.setWd (Wd.t2Search d.ready b)
  | .t2Id => d.setWd (Wd.t2Id b)
  | .t2Dam => d.setWd (Wd.t2Dam b)
  | .t2Read => d.t2Read b
  | .t2Crc => d.setWd (Wd.t2Crc c d.formatted)
  | .t2Wgap => d.setWd Wd.t2Wgap
  | .t2Write => d.t2Write
  | .t3Ra => d.setWd (Wd.t3Ra b)
  | .t3RtIndex => d.setWd (Wd.t3RtIndex index b)
  | .t3Rt => d.setWd (Wd.t3Rt b)
  | .t3WtDrq => d.setWd Wd.t3WtDrq
  | .t3WtIndex => d.t3WtIndex index
  | .t3Wt => d.t3Wt

/-- The index bookkeeping of a step with an index pulse (47 R632). -/
def Wd.indexMark (w : Wd) : Wd :=
  let w := { w with revCount := w.revCount + 1 }
  let w :=
    if w.state = .idle then
      { w with idleRevs := w.idleRevs + 1, headLoaded := w.headLoaded && decide (w.idleRevs + 1 < 15) }
    else w
  { w with intrq := w.intrq || w.intCond.getLsbD 2 }

/-- `ByteStep(k)`; only the index bookkeeping while held in reset (47 R632; log 24). -/
def Disk.byteStep (c : Cfg) (k : Nat) (d : Disk) : Disk :=
  let b := d.trackByte k
  let index := d.indexPulse k
  let d := if index then d.setWd Wd.indexMark else d
  if d.wd.heldInReset then d
  else (d.act c index b).setWd fun w => { w with markShift := shiftMark w.markShift b }

/-- Byte steps `k + 1` to `k + n`. -/
def Disk.byteSteps (c : Cfg) (k : Nat) : Nat → Disk → Disk
  | 0, d => d
  | n + 1, d => Disk.byteSteps c (k + 1) n (d.byteStep c (k + 1))

/-- `WdCatchUp(now)` (47 R632). -/
def Disk.catchUp (c : Cfg) (now : Nat) (d : Disk) : Disk :=
  let last := now / c.diskByteTstates
  (d.byteSteps c d.wd.lastStep (last - d.wd.lastStep)).setWd fun w =>
    { w with lastStep := max w.lastStep last }

/-! ## Reset (47 R660, R661) -/

/-- `ResetWD()`: `lastStep`, `heldInReset` and `betaSys` are not changed (47 R660). -/
def Wd.resetWd (w : Wd) : Wd :=
  { Wd.reset with lastStep := w.lastStep, heldInReset := w.heldInReset, betaSys := w.betaSys }

/-- A system register write (47 R603). -/
def Disk.systemWrite (c : Cfg) (v : Byte) (d : Disk) : Disk :=
  let held := d.wd.heldInReset
  let d := d.setWd fun w => { w with betaSys := v }
  if !v.getLsbD 2 then d.setWd fun w => { w with heldInReset := true }.resetWd
  else if held then (d.setWd fun w => { w with heldInReset := false }).commandStart c 0x03
  else d

/-! ## Ports (47 R601, R602, R615 to R617) -/

/-- The low port bytes of the Betadisk interface (20 R140, R141). -/
def isBetaPort (lo : Byte) : Bool :=
  lo == 0x1F || lo == 0x3F || lo == 0x5F || lo == 0x7F || lo == 0xFF

/-- `StatusValue()` (47 R615). -/
def Disk.statusValue (c : Cfg) (now : Nat) (d : Disk) : Byte :=
  let st := d.wd.statusReg
  match d.wd.statusType with
  | .typeI =>
    byteOfBits (!d.ready) (d.ready && d.drive.writeProtected) d.wd.headLoaded (st.getLsbD 4)
      (st.getLsbD 3) d.tr00 (d.indexActive c now) (st.getLsbD 0)
  | .typeIIIII =>
    byteOfBits (!d.ready) (st.getLsbD 6) (st.getLsbD 5) (st.getLsbD 4)
      (st.getLsbD 3) (st.getLsbD 2) d.wd.drq (st.getLsbD 0)

/-- A read of a Betadisk port: the value and the controller after it (47 R601). -/
def Disk.portRead (c : Cfg) (now : Nat) (lo : Byte) (d : Disk) : Byte × Disk :=
  let d := d.catchUp c now
  if lo = 0x1F then (d.statusValue c now, d.setWd fun w => { w with intrq := false })
  else if lo = 0x3F then (d.wd.trackReg, d)
  else if lo = 0x5F then (d.wd.sectorReg, d)
  else if lo = 0x7F then (d.wd.dataReg, d.setWd fun w => { w with drq := false })
  else (byteOfBits d.wd.intrq d.wd.drq true true true true true true, d)

/-- A write of a Betadisk port (47 R602). -/
def Disk.portWrite (c : Cfg) (now : Nat) (lo v : Byte) (d : Disk) : Disk :=
  let d := d.catchUp c now
  if lo = 0xFF then d.systemWrite c v
  else if d.wd.heldInReset then d
  else if lo = 0x1F then d.commandWrite c v
  else if lo = 0x3F then d.setWd fun w => { w with trackReg := v }
  else if lo = 0x5F then d.setWd fun w => { w with sectorReg := v }
  else d.setWd fun w => { w with dataReg := v, drq := false }

/-! ## Insertion and ejection (47 R670, R671) -/

/-- The record an image makes of a unit; none for an invalid image (47 R610, R612, R670). -/
def mountImage (img : Image) (wp : Bool) (headTrack : Nat) : Option Drive :=
  let img := img.normal
  if isScl img then
    if sclValid img then
      some { available := true, kind := .scl, tracks := 80, sides := 2, image := img,
             writeProtected := true, headTrack := headTrack, sclTrack0 := some (sclTrack0Of img) }
    else none
  else if img.size ≤ trdTypeOffset then none
  else
    match trdGeometry (img.byte trdTypeOffset) with
    | none => none
    | some (tracks, sides) =>
      some { available := true, kind := .trd, tracks := tracks, sides := sides,
             image := { img with size := max img.size (tracks * sides * 16 * 256) },
             writeProtected := wp, headTrack := headTrack, sclTrack0 := none }

/-- `InsertDisk(u, bytes, wp)`: the disk side and whether it succeeded (47 R670). -/
def Disk.insert (c : Cfg) (now : Nat) (u : Fin 4) (image : Option Image) (wp : Bool) (d : Disk) :
    Disk × Bool :=
  match image.bind fun img => mountImage img wp (d.catchUp c now).drives[u].headTrack with
  | none => (d, false)
  | some dr =>
    let d := d.catchUp c now
    let wake := d.wd.unit == u && !d.drives[u].available && d.wd.intCond.getLsbD 0
    ({ d with drives := d.drives.set u dr, wd := { d.wd with intrq := d.wd.intrq || wake } }, true)

/-- `EjectDisk(u)` (47 R671). What the record of a unit without a disk holds beside the fields the rule
names (not write protected, TRD, 80 tracks, 2 sides) is the model's (DESIGN CHOICE, safe: log 26). -/
def Disk.eject (c : Cfg) (now : Nat) (u : Fin 4) (d : Disk) : Disk :=
  let d := d.catchUp c now
  let dr := d.drives[u]
  let empty := { Drive.empty with headTrack := dr.headTrack }
  let w := d.wd
  let w :=
    if w.unit = u then
      let w :=
        if w.state ≠ .idle then
          { w with statusReg := w.statusReg &&& 0xFE, state := .idle, drq := false }
        else w
      { w with intrq := w.intrq || (dr.available && w.intCond.getLsbD 1) }
    else w
  { drives := d.drives.set u empty, wd := w }

end Sys2Proof.Machine
end

