-- ==== Sys2Proof/Machine/Ports.lean ====
section
/-! DEFINITION. The port decode (20 R140, R141) and the ULA port (45 R500 to R503). -/

namespace Sys2Proof.Machine

/-- Line 1 of both tables: the Betadisk interface takes the access (20 R140, R141). -/
def betaSelected (s : State) (p : Word) : Bool :=
  s.cfg.betadisk && s.paging.trdosActive && isBetaPort (loByte p)

/-- `p[0] = 0` (20 R140, R141, R132). -/
def isUlaPort (p : Word) : Bool := !p.getLsbD 0

/-- `p[15:14] = 0b11 and p[1] = 0` (46 R550). -/
def isAySelectPort (p : Word) : Bool := p.getLsbD 15 && p.getLsbD 14 && !p.getLsbD 1

/-- `p[15:14] = 0b10 and p[1] = 0` (46 R550). -/
def isAyDataPort (p : Word) : Bool := p.getLsbD 15 && !p.getLsbD 14 && !p.getLsbD 1

/-- `p[15] = 0 and p[1] = 0` (20 R141). -/
def isPagingPort (p : Word) : Bool := !p.getLsbD 15 && !p.getLsbD 1

/-- One half-row ANDed in when its address line is low (45 R502). -/
def keyRow (u : Ula) (p : Word) (k : Fin 8) (acc : BitVec 5) : BitVec 5 :=
  if p.getLsbD (8 + k.val) then acc else acc &&& u.keyMatrix[k]

/-- keys (45 R502). -/
def keysRead (u : Ula) (p : Word) : BitVec 5 :=
  keyRow u p 7 (keyRow u p 6 (keyRow u p 5 (keyRow u p 4
    (keyRow u p 3 (keyRow u p 2 (keyRow u p 1 (keyRow u p 0 0x1F)))))))

/-- earIn, the tape caught up (45 R502, 48 R710). -/
def earIn (t : Tape) (u : Ula) : Bool :=
  match t.status with
  | .loading => t.earBit
  | .stopped => u.earOut

/-- The value of a ULA read, the tape caught up (45 R502). -/
def ulaValue (t : Tape) (u : Ula) (p : Word) : Byte :=
  1#1 ++ BitVec.ofBool (earIn t u) ++ 1#1 ++ keysRead u p

/-- A ULA read (45 R502). -/
def ulaRead (p : Word) (s : State) : Byte × State :=
  let t := s.tape.catchUp s.cfg s.clock.absTime
  (ulaValue t s.ula p, { s with tape := t })

/-- A ULA write (45 R500). -/
def ulaWrite (v : Byte) (u : Ula) : Ula :=
  { u with borderColour := v.extractLsb' 0 3, micOut := v.getLsbD 3, earOut := v.getLsbD 4 }

/-- `PortRead(p, ts)` at the state's time (20 R140). -/
def portRead (p : Word) (s : State) : Byte × State :=
  if betaSelected s p then
    let r := s.disk.portRead s.cfg s.clock.absTime (loByte p)
    (r.1, { s with disk := r.2 })
  else if isUlaPort p then ulaRead p s
  else if (archConfig s.cfg).hasAy && isAySelectPort p then (s.ay.read, s)
  else if s.cfg.kempston && loByte p == 0x1F then (s.ula.kempston, s)
  else (floatingBus s s.clock.tstates, s)

/-- Line 2 of the write table. -/
def portWriteUla (p : Word) (v : Byte) (s : State) : State :=
  if isUlaPort p then { s with ula := ulaWrite v s.ula } else s

/-- Line 3 of the write table. -/
def portWritePaging (p : Word) (v : Byte) (s : State) : State :=
  if (archConfig s.cfg).hasPaging && isPagingPort p then
    { s with paging := pagingWrite s.cfg s.paging v }
  else s

/-- Lines 4 and 5 of the write table. -/
def portWriteAy (p : Word) (v : Byte) (s : State) : State :=
  if (archConfig s.cfg).hasAy && isAySelectPort p then { s with ay := s.ay.select v }
  else if (archConfig s.cfg).hasAy && isAyDataPort p then
    { s with ay := s.ay.write s.cfg s.clock.tstates v }
  else s

/-- `PortWrite(p, v, t)` at the state's time (20 R141). -/
def portWrite (p : Word) (v : Byte) (s : State) : State :=
  if betaSelected s p then
    { s with disk := s.disk.portWrite s.cfg s.clock.absTime (loByte p) v }
  else portWriteAy p v (portWritePaging p v (portWriteUla p v s))

end Sys2Proof.Machine
end

