-- ==== Sys2Proof/Machine/Ops.lean ====
section
/-! DEFINITION. The bus primitives (20 R120 to R132), the stack, interrupt acceptance (60 R742 to R745)
and the return from it (43 R411, R412), as operations on the state. Each charges its time before its
data access (20 R127). -/

namespace Sys2Proof.Machine

/-! ## Memory cycles -/

/-- The contention delay of a cycle at address `a`, if it is contended (20 R110, R111). -/
def contend (a : Word) (s : State) : State :=
  if contendedAt s.cfg s.paging a then advance (delayAt s.cfg s.clock.tstates) s else s

/-- `ChargeCycle(a, n)` (20 R120). -/
def chargeCycle (a : Word) (n : Nat) (s : State) : State := advance n (contend a s)

/-- `R <- R[7] : ((R[6:0] + 1) mod 128)` (20 R121). -/
def nextR (r : Byte) : Byte := r.extractLsb' 7 1 ++ (r.extractLsb' 0 7 + 1)

/-- The refresh counter moved on by one M1 cycle (20 R121, 60 R742). -/
def bumpR (s : State) : State := { s with cpu := { s.cpu with r := nextR s.cpu.r } }

/-- `Fetch(a)`; the byte is not answered, since the decoder has read it (20 R121; log 14). -/
def fetch (a : Word) (s : State) : State :=
  bumpR (chargeCycle a 4 { s with paging := fetchPaging s.cfg s.paging a })

/-- `MemRead(a, 1)` (20 R122). -/
def memRead (a : Word) (s : State) : Byte × State :=
  ((chargeCycle a 3 s).readByte a, chargeCycle a 3 s)

/-- `MemRead(a, 1)` of an instruction byte that the decoder has read (log 14). -/
def skipRead (a : Word) (s : State) : State := (memRead a s).2

/-- `MemWrite(a, 1, v)` (20 R123). -/
def memWrite (a : Word) (v : Byte) (s : State) : State := (chargeCycle a 3 s).writeByte a v

/-- `Internal(a, n)` (20 R124). -/
def internal (a : Word) : Nat → State → State
  | 0, s => s
  | n + 1, s => internal a n (chargeCycle a 1 s)

/-- `Ack(n)` (20 R125). -/
def ack (n : Nat) (s : State) : State := advance n s

/-- `MemRead(a, 2)` (20 R126). -/
def memReadWord (a : Word) (s : State) : Word × State :=
  let lo := memRead a s
  let hi := memRead (a + 1) lo.2
  (mkWord hi.1 lo.1, hi.2)

/-- `MemWrite(a, 2, v)` (20 R126). -/
def memWriteWord (a v : Word) (s : State) : State :=
  memWrite (a + 1) (hiByte v) (memWrite a (loByte v) s)

/-- The address `IR`: `I * 256 + R` (20 R124). -/
def State.ir (s : State) : Word := mkWord s.cpu.i s.cpu.r

/-- `Internal(IR, n)` (20 R124). -/
def internalIr (n : Nat) (s : State) : State := internal s.ir n s

/-! ## I/O cycles -/

/-- `C:k` of the I/O table (20 R132). -/
def ioContended (k : Nat) (s : State) : State :=
  advance k (if (archConfig s.cfg).hasContention then advance (delayAt s.cfg s.clock.tstates) s else s)

/-- `ChargeIO(p)` (20 R132). -/
def chargeIo (p : Word) (s : State) : State :=
  if contendedAt s.cfg s.paging p then
    if isUlaPort p then ioContended 2 (ioContended 1 s)
    else ioContended 0 (ioContended 1 (ioContended 1 (ioContended 1 s)))
  else
    if isUlaPort p then ioContended 2 (advance 1 s)
    else advance 3 s

/-- `IORead(p)` (20 R130). -/
def ioRead (p : Word) (s : State) : Byte × State :=
  let r := portRead p (chargeIo p s)
  (r.1, advance 1 r.2)

/-- `IOWrite(p, v)` (20 R131). -/
def ioWrite (p : Word) (v : Byte) (s : State) : State :=
  advance 1 (portWrite p v (chargeIo p s))

/-! ## Registers the operations above need -/

/-- PC set. -/
def State.setPc (s : State) (a : Word) : State := { s with cpu := { s.cpu with pc := a } }

/-- SP set. -/
def State.setSp (s : State) (a : Word) : State := { s with cpu := { s.cpu with sp := a } }

/-- PC moved past an instruction of `k` bytes. -/
def State.skip (s : State) (k : Nat) : State := s.setPc (s.cpu.pc + BitVec.ofNat 16 k)

/-! ## The stack (40 R250, R252) -/

/-- The push law: the high byte at SP - 1, then the low byte at SP - 2 (40 R250). -/
def push (w : Word) (s : State) : State :=
  let sp := s.cpu.sp
  (memWrite (sp - 2) (loByte w) (memWrite (sp - 1) (hiByte w) s)).setSp (sp - 2)

/-- The pop law (40 R252). -/
def pop (s : State) : Word × State :=
  let r := memReadWord s.cpu.sp s
  (r.1, r.2.setSp (s.cpu.sp + 2))

/-! ## Interrupts (60_exceptions.md) -/

/-- `IntActive(t)` (44 R465). -/
def intActive (c : Cfg) (t : Nat) : Bool := decide (t < (archConfig c).intLen)

/-- What maskable and non-maskable acceptance share: an acknowledge M1 cycle of `n` T-states, the push
of PC, and PC at the handler (60 R742, R745). The caller changes the flip-flops. -/
def enterHandler (n : Nat) (handler : Word) (s : State) : State :=
  (push s.cpu.pc (ack n (bumpR s))).setPc handler

/-- The IM 2 vector address (60 R744). -/
def vectorAddress (i : Byte) : Word := mkWord i 0xFF

/-- `AcceptINT()` (60 R742 to R744). -/
def acceptInt (s : State) : State :=
  let s := { s with cpu := { s.cpu with halted := false, iff1 := false, iff2 := false } }
  let t := enterHandler 7 0x0038 s
  match s.cpu.im with
  | .im0 | .im1 => t
  | .im2 =>
    let v := memReadWord (vectorAddress s.cpu.i) t
    v.2.setPc v.1

/-- `AcceptNMI()` (60 R745). -/
def acceptNmi (s : State) : State :=
  enterHandler 5 0x0066
    { s with cpu := { s.cpu with nmiPending := false, eiBlock := false, halted := false, iff1 := false } }

/-- The return from an interrupt handler that RETI and RETN share, after the opcode fetches
(43 R411, R412). -/
def returnFromInterrupt (s : State) : State :=
  let r := pop s
  { r.2 with cpu := { r.2.cpu with pc := r.1, iff1 := r.2.cpu.iff2 } }

/-! ## Draws (93 I4; log 7) -/

/-- One drawn Bool. -/
def drawBool (s : State) : Bool × State :=
  (Config.drawBool s.drawCount, { s with drawCount := s.drawCount + 1 })

/-! ## Outcomes -/

/-- The outcome of a step of this machine. -/
abbrev Result := Host.Outcome State Fault Refusal

/-- The outcome of an undocumented or undefined form: refused under UNDOC_OPCODES = refuse, before any
change of the state; else its next state (44 R461, 30 R200). -/
def undocumented (s t : State) : Result :=
  match s.cfg.undoc with
  | .refuse => .refused (.undocumentedOpcode s.cpu.pc)
  | .execute => .next t

end Sys2Proof.Machine
end

