-- ==== Sys2Proof/Syntax.lean ====
section
/-! DEFINITION. The instructions: one constructor per row of spec/opcode_table.json (199 Z80 rows and
11 WD1793 commands), with the operand types of 30_encoding.md rules R182 to R190. -/

namespace Sys2Proof

/-- The 8-bit register field r, without its `(HL)` code (30 R182). -/
inductive Reg8 where
  | b | c | d | e | h | l | a
  deriving DecidableEq, Repr

/-- The register-pair field rp (30 R183). -/
inductive RegPair where
  | bc | de | hl | sp
  deriving DecidableEq, Repr

/-- The register-pair field rp2 of PUSH and POP (30 R183). -/
inductive StackPair where
  | bc | de | hl | af
  deriving DecidableEq, Repr

/-- The register-pair field of `ADD ii,pp`: code 10 names the index register itself (41 R324). -/
inductive IdxPair where
  | bc | de | ii | sp
  deriving DecidableEq, Repr

/-- The index register a DD or FD byte selects (30 R192). -/
inductive Idx where
  | ix | iy
  deriving DecidableEq, Repr

/-- An index half: iH or iL (30 R196). -/
inductive Half where
  | ih | il
  deriving DecidableEq, Repr

/-- The 8-bit register field under DD or FD, H and L standing for iH and iL (30 R196, 40 R248). -/
inductive HalfReg where
  | b | c | d | e | ih | il | a
  deriving DecidableEq, Repr

/-- The condition field cc (30 R190). -/
inductive Cond where
  | nz | z | nc | c | po | pe | p | m
  deriving DecidableEq, Repr

/-- The condition field of `JR cc`: the first four conditions (30 R190, 43 R403). -/
inductive JrCond where
  | nz | z | nc | c
  deriving DecidableEq, Repr

/-- The instructions: one constructor per row of spec/opcode_table.json; its docstring gives the row's
encoding and rule. `M` in a name stands for a memory operand, `Dup` for an undocumented duplicate,
`Copy` for an undocumented register copy. -/
inductive Instr where
  /-- `NOP`: `00000000`, R420. -/
  | nop
  /-- `LD rr,nn`: `00pp0001 nnnnnnnn nnnnnnnn`, R254. -/
  | ldRrNn (rr : RegPair) (nn : Word)
  /-- `ADD HL,rr`: `00pp1001`, R321. -/
  | addHlRr (rr : RegPair)
  /-- `LD (BC),A`: `00000010`, R241. -/
  | ldMBcA
  /-- `LD (DE),A`: `00010010`, R242. -/
  | ldMDeA
  /-- `LD (nn),HL`: `00100010 nnnnnnnn nnnnnnnn`, R259. -/
  | ldMNnHl (nn : Word)
  /-- `LD (nn),A`: `00110010 nnnnnnnn nnnnnnnn`, R243. -/
  | ldMNnA (nn : Word)
  /-- `LD A,(BC)`: `00001010`, R238. -/
  | ldAMBc
  /-- `LD A,(DE)`: `00011010`, R239. -/
  | ldAMDe
  /-- `LD HL,(nn)`: `00101010 nnnnnnnn nnnnnnnn`, R256. -/
  | ldHlMNn (nn : Word)
  /-- `LD A,(nn)`: `00111010 nnnnnnnn nnnnnnnn`, R240. -/
  | ldAMNn (nn : Word)
  /-- `INC rr`: `00pp0011`, R325. -/
  | incRr (rr : RegPair)
  /-- `DEC rr`: `00pp1011`, R327. -/
  | decRr (rr : RegPair)
  /-- `INC r`: `00rrr100`, R310. -/
  | incR (r : Reg8)
  /-- `INC (HL)`: `00110100`, R311. -/
  | incMHl
  /-- `DEC r`: `00rrr101`, R313. -/
  | decR (r : Reg8)
  /-- `DEC (HL)`: `00110101`, R314. -/
  | decMHl
  /-- `LD r,n`: `00rrr110 nnnnnnnn`, R231. -/
  | ldRN (r : Reg8) (n : Byte)
  /-- `LD (HL),n`: `00110110 nnnnnnnn`, R236. -/
  | ldMHlN (n : Byte)
  /-- `RLCA`: `00000111`, R370. -/
  | rlca
  /-- `RRCA`: `00001111`, R372. -/
  | rrca
  /-- `RLA`: `00010111`, R371. -/
  | rla
  /-- `RRA`: `00011111`, R373. -/
  | rra
  /-- `DAA`: `00100111`, R316. -/
  | daa
  /-- `CPL`: `00101111`, R317. -/
  | cpl
  /-- `SCF`: `00110111`, R320. -/
  | scf
  /-- `CCF`: `00111111`, R319. -/
  | ccf
  /-- `EX AF,AF'`: `00001000`, R262. -/
  | exAfAf
  /-- `DJNZ e`: `00010000 eeeeeeee`, R406. -/
  | djnz (e : Byte)
  /-- `JR e`: `00011000 eeeeeeee`, R402. -/
  | jr (e : Byte)
  /-- `JR c,e`: `001cc000 eeeeeeee`, R403. -/
  | jrC (cc : JrCond) (e : Byte)
  /-- `LD r,s`: `01rrrsss`, R230. -/
  | ldRS (r : Reg8) (r2 : Reg8)
  /-- `LD r,(HL)`: `01rrr110`, R232. -/
  | ldRMHl (r : Reg8)
  /-- `LD (HL),s`: `01110sss`, R234. -/
  | ldMHlS (r : Reg8)
  /-- `HALT`: `01110110`, R421. -/
  | halt
  /-- `ADD A,r`: `10000sss`, R302. -/
  | addAR (r : Reg8)
  /-- `ADD A,(HL)`: `10000110`, R302. -/
  | addAMHl
  /-- `ADD A,n`: `11000110 nnnnnnnn`, R302. -/
  | addAN (n : Byte)
  /-- `ADC A,r`: `10001sss`, R303. -/
  | adcAR (r : Reg8)
  /-- `ADC A,(HL)`: `10001110`, R303. -/
  | adcAMHl
  /-- `ADC A,n`: `11001110 nnnnnnnn`, R303. -/
  | adcAN (n : Byte)
  /-- `SUB r`: `10010sss`, R304. -/
  | subAR (r : Reg8)
  /-- `SUB (HL)`: `10010110`, R304. -/
  | subAMHl
  /-- `SUB n`: `11010110 nnnnnnnn`, R304. -/
  | subAN (n : Byte)
  /-- `SBC A,r`: `10011sss`, R305. -/
  | sbcAR (r : Reg8)
  /-- `SBC A,(HL)`: `10011110`, R305. -/
  | sbcAMHl
  /-- `SBC A,n`: `11011110 nnnnnnnn`, R305. -/
  | sbcAN (n : Byte)
  /-- `AND r`: `10100sss`, R306. -/
  | andAR (r : Reg8)
  /-- `AND (HL)`: `10100110`, R306. -/
  | andAMHl
  /-- `AND n`: `11100110 nnnnnnnn`, R306. -/
  | andAN (n : Byte)
  /-- `XOR r`: `10101sss`, R307. -/
  | xorAR (r : Reg8)
  /-- `XOR (HL)`: `10101110`, R307. -/
  | xorAMHl
  /-- `XOR n`: `11101110 nnnnnnnn`, R307. -/
  | xorAN (n : Byte)
  /-- `OR r`: `10110sss`, R308. -/
  | orAR (r : Reg8)
  /-- `OR (HL)`: `10110110`, R308. -/
  | orAMHl
  /-- `OR n`: `11110110 nnnnnnnn`, R308. -/
  | orAN (n : Byte)
  /-- `CP r`: `10111sss`, R309. -/
  | cpAR (r : Reg8)
  /-- `CP (HL)`: `10111110`, R309. -/
  | cpAMHl
  /-- `CP n`: `11111110 nnnnnnnn`, R309. -/
  | cpAN (n : Byte)
  /-- `RET c`: `11ccc000`, R410. -/
  | retC (cc : Cond)
  /-- `POP qq`: `11pp0001`, R252. -/
  | popQq (qq : StackPair)
  /-- `RET`: `11001001`, R409. -/
  | ret
  /-- `EXX`: `11011001`, R263. -/
  | exx
  /-- `JP (HL)`: `11101001`, R404. -/
  | jpHl
  /-- `LD SP,HL`: `11111001`, R264. -/
  | ldSpHl
  /-- `JP c,nn`: `11ccc010 nnnnnnnn nnnnnnnn`, R401. -/
  | jpCNn (cc : Cond) (nn : Word)
  /-- `JP nn`: `11000011 nnnnnnnn nnnnnnnn`, R400. -/
  | jpNn (nn : Word)
  /-- `OUT (n),A`: `11010011 nnnnnnnn`, R437. -/
  | outNA (n : Byte)
  /-- `IN A,(n)`: `11011011 nnnnnnnn`, R430. -/
  | inAN (n : Byte)
  /-- `EX (SP),HL`: `11100011`, R267. -/
  | exMSpHl
  /-- `EX DE,HL`: `11101011`, R266. -/
  | exDeHl
  /-- `DI`: `11110011`, R422. -/
  | di
  /-- `EI`: `11111011`, R423. -/
  | ei
  /-- `CALL c,nn`: `11ccc100 nnnnnnnn nnnnnnnn`, R408. -/
  | callCNn (cc : Cond) (nn : Word)
  /-- `PUSH qq`: `11pp0101`, R250. -/
  | pushQq (qq : StackPair)
  /-- `CALL nn`: `11001101 nnnnnnnn nnnnnnnn`, R407. -/
  | callNn (nn : Word)
  /-- `RST t`: `11ttt111`, R413. -/
  | rst (t : BitVec 3)
  /-- `RLC r`: `11001011 00000rrr`, R375. -/
  | rlcR (r : Reg8)
  /-- `RLC (HL)`: `11001011 00000110`, R375. -/
  | rlcMHl
  /-- `RRC r`: `11001011 00001rrr`, R376. -/
  | rrcR (r : Reg8)
  /-- `RRC (HL)`: `11001011 00001110`, R376. -/
  | rrcMHl
  /-- `RL r`: `11001011 00010rrr`, R377. -/
  | rlR (r : Reg8)
  /-- `RL (HL)`: `11001011 00010110`, R377. -/
  | rlMHl
  /-- `RR r`: `11001011 00011rrr`, R378. -/
  | rrR (r : Reg8)
  /-- `RR (HL)`: `11001011 00011110`, R378. -/
  | rrMHl
  /-- `SLA r`: `11001011 00100rrr`, R379. -/
  | slaR (r : Reg8)
  /-- `SLA (HL)`: `11001011 00100110`, R379. -/
  | slaMHl
  /-- `SRA r`: `11001011 00101rrr`, R380. -/
  | sraR (r : Reg8)
  /-- `SRA (HL)`: `11001011 00101110`, R380. -/
  | sraMHl
  /-- `SLL r`: `11001011 00110rrr`, R381. -/
  | sllR (r : Reg8)
  /-- `SLL (HL)`: `11001011 00110110`, R381. -/
  | sllMHl
  /-- `SRL r`: `11001011 00111rrr`, R382. -/
  | srlR (r : Reg8)
  /-- `SRL (HL)`: `11001011 00111110`, R382. -/
  | srlMHl
  /-- `BIT b,r`: `11001011 01bbbrrr`, R385. -/
  | bitBR (bit : BitVec 3) (r : Reg8)
  /-- `BIT b,(HL)`: `11001011 01bbb110`, R385. -/
  | bitBMHl (bit : BitVec 3)
  /-- `RES b,r`: `11001011 10bbbrrr`, R387. -/
  | resBR (bit : BitVec 3) (r : Reg8)
  /-- `RES b,(HL)`: `11001011 10bbb110`, R387. -/
  | resBMHl (bit : BitVec 3)
  /-- `SET b,r`: `11001011 11bbbrrr`, R386. -/
  | setBR (bit : BitVec 3) (r : Reg8)
  /-- `SET b,(HL)`: `11001011 11bbb110`, R386. -/
  | setBMHl (bit : BitVec 3)
  /-- `IN r,(C)`: `11101101 01rrr000`, R431. -/
  | inRC (r : Reg8)
  /-- `IN F,(C)`: `11101101 01110000`, R432. -/
  | inFC
  /-- `OUT (C),r`: `11101101 01rrr001`, R438. -/
  | outCR (r : Reg8)
  /-- `OUT (C),0`: `11101101 01110001`, R439. -/
  | outC0
  /-- `SBC HL,rr`: `11101101 01pp0010`, R323. -/
  | sbcHlRr (rr : RegPair)
  /-- `ADC HL,rr`: `11101101 01pp1010`, R322. -/
  | adcHlRr (rr : RegPair)
  /-- `LD (nn),rr`: `11101101 01pp0011 nnnnnnnn nnnnnnnn`, R260. -/
  | ldMNnRr (rr : RegPair) (nn : Word)
  /-- `LD rr,(nn)`: `11101101 01pp1011 nnnnnnnn nnnnnnnn`, R257. -/
  | ldRrMNn (rr : RegPair) (nn : Word)
  /-- `NEG`: `11101101 01000100`, R318. -/
  | neg
  /-- `NEG (duplicate)`: `11101101 01yyy100`, R318. -/
  | negDup (y : BitVec 3)
  /-- `RETN`: `11101101 01000101`, R412. -/
  | retn
  /-- `RETI`: `11101101 01001101`, R411. -/
  | reti
  /-- `RETN (duplicate)`: `11101101 01yyy101`, R412. -/
  | retnDup (y : BitVec 3)
  /-- `IM 0`: `11101101 01000110`, R424. -/
  | im0
  /-- `IM 1`: `11101101 01010110`, R424. -/
  | im1
  /-- `IM 2`: `11101101 01011110`, R424. -/
  | im2
  /-- `IM (duplicate)`: `11101101 01yyy110`, R424. -/
  | imDup (y : BitVec 3)
  /-- `LD I,A`: `11101101 01000111`, R246. -/
  | ldIA
  /-- `LD R,A`: `11101101 01001111`, R247. -/
  | ldRA
  /-- `LD A,I`: `11101101 01010111`, R244. -/
  | ldAI
  /-- `LD A,R`: `11101101 01011111`, R245. -/
  | ldAR
  /-- `RRD`: `11101101 01100111`, R384. -/
  | rrd
  /-- `RLD`: `11101101 01101111`, R383. -/
  | rld
  /-- `NOP (ED 77/7F)`: `11101101 0111y111`, R450. -/
  | nopEd7 (y : Bool)
  /-- `LDI`: `11101101 10100000`, R270. -/
  | ldi
  /-- `LDD`: `11101101 10101000`, R272. -/
  | ldd
  /-- `LDIR`: `11101101 10110000`, R271. -/
  | ldir
  /-- `LDDR`: `11101101 10111000`, R273. -/
  | lddr
  /-- `CPI`: `11101101 10100001`, R274. -/
  | cpi
  /-- `CPD`: `11101101 10101001`, R276. -/
  | cpd
  /-- `CPIR`: `11101101 10110001`, R275. -/
  | cpir
  /-- `CPDR`: `11101101 10111001`, R277. -/
  | cpdr
  /-- `INI`: `11101101 10100010`, R433. -/
  | ini
  /-- `IND`: `11101101 10101010`, R435. -/
  | ind
  /-- `INIR`: `11101101 10110010`, R434. -/
  | inir
  /-- `INDR`: `11101101 10111010`, R436. -/
  | indr
  /-- `OUTI`: `11101101 10100011`, R440. -/
  | outi
  /-- `OUTD`: `11101101 10101011`, R442. -/
  | outd
  /-- `OTIR`: `11101101 10110011`, R441. -/
  | otir
  /-- `OTDR`: `11101101 10111011`, R443. -/
  | otdr
  /-- `NONI (undefined ED)`: `11101101 xxxxxxxx`, R450. -/
  | noni (op : Byte)
  /-- `LD ii,nn`: `11i11101 00100001 nnnnnnnn nnnnnnnn`, R255. -/
  | ldIiNn (i : Idx) (nn : Word)
  /-- `ADD ii,rr`: `11i11101 00pp1001`, R324. -/
  | addIiRr (i : Idx) (pp : IdxPair)
  /-- `LD (nn),ii`: `11i11101 00100010 nnnnnnnn nnnnnnnn`, R261. -/
  | ldMNnIi (i : Idx) (nn : Word)
  /-- `LD ii,(nn)`: `11i11101 00101010 nnnnnnnn nnnnnnnn`, R258. -/
  | ldIiMNn (i : Idx) (nn : Word)
  /-- `INC ii`: `11i11101 00100011`, R326. -/
  | incIi (i : Idx)
  /-- `DEC ii`: `11i11101 00101011`, R328. -/
  | decIi (i : Idx)
  /-- `INC iH/iL`: `11i11101 0010h100`, R310. -/
  | incIhl (i : Idx) (h : Half)
  /-- `DEC iH/iL`: `11i11101 0010h101`, R313. -/
  | decIhl (i : Idx) (h : Half)
  /-- `LD iH/iL,n`: `11i11101 0010h110 nnnnnnnn`, R249. -/
  | ldIhlN (i : Idx) (h : Half) (n : Byte)
  /-- `INC (ii+d)`: `11i11101 00110100 dddddddd`, R312. -/
  | incMIx (i : Idx) (d : Byte)
  /-- `DEC (ii+d)`: `11i11101 00110101 dddddddd`, R315. -/
  | decMIx (i : Idx) (d : Byte)
  /-- `LD (ii+d),n`: `11i11101 00110110 dddddddd nnnnnnnn`, R237. -/
  | ldMIxN (i : Idx) (d : Byte) (n : Byte)
  /-- `LD r,(ii+d)`: `11i11101 01rrr110 dddddddd`, R233. -/
  | ldRMIx (i : Idx) (r : Reg8) (d : Byte)
  /-- `LD (ii+d),s`: `11i11101 01110sss dddddddd`, R235. -/
  | ldMIxS (i : Idx) (r : Reg8) (d : Byte)
  /-- `LD r,s (index halves)`: `11i11101 01rrrsss`, R248. -/
  | ldHalves (i : Idx) (r : HalfReg) (r2 : HalfReg)
  /-- `ADD A,iH/iL`: `11i11101 1000010h`, R302. -/
  | addAIhl (i : Idx) (h : Half)
  /-- `ADD A,(ii+d)`: `11i11101 10000110 dddddddd`, R302. -/
  | addAMIx (i : Idx) (d : Byte)
  /-- `ADC A,iH/iL`: `11i11101 1000110h`, R303. -/
  | adcAIhl (i : Idx) (h : Half)
  /-- `ADC A,(ii+d)`: `11i11101 10001110 dddddddd`, R303. -/
  | adcAMIx (i : Idx) (d : Byte)
  /-- `SUB iH/iL`: `11i11101 1001010h`, R304. -/
  | subAIhl (i : Idx) (h : Half)
  /-- `SUB (ii+d)`: `11i11101 10010110 dddddddd`, R304. -/
  | subAMIx (i : Idx) (d : Byte)
  /-- `SBC A,iH/iL`: `11i11101 1001110h`, R305. -/
  | sbcAIhl (i : Idx) (h : Half)
  /-- `SBC A,(ii+d)`: `11i11101 10011110 dddddddd`, R305. -/
  | sbcAMIx (i : Idx) (d : Byte)
  /-- `AND iH/iL`: `11i11101 1010010h`, R306. -/
  | andAIhl (i : Idx) (h : Half)
  /-- `AND (ii+d)`: `11i11101 10100110 dddddddd`, R306. -/
  | andAMIx (i : Idx) (d : Byte)
  /-- `XOR iH/iL`: `11i11101 1010110h`, R307. -/
  | xorAIhl (i : Idx) (h : Half)
  /-- `XOR (ii+d)`: `11i11101 10101110 dddddddd`, R307. -/
  | xorAMIx (i : Idx) (d : Byte)
  /-- `OR iH/iL`: `11i11101 1011010h`, R308. -/
  | orAIhl (i : Idx) (h : Half)
  /-- `OR (ii+d)`: `11i11101 10110110 dddddddd`, R308. -/
  | orAMIx (i : Idx) (d : Byte)
  /-- `CP iH/iL`: `11i11101 1011110h`, R309. -/
  | cpAIhl (i : Idx) (h : Half)
  /-- `CP (ii+d)`: `11i11101 10111110 dddddddd`, R309. -/
  | cpAMIx (i : Idx) (d : Byte)
  /-- `POP ii`: `11i11101 11100001`, R253. -/
  | popIi (i : Idx)
  /-- `EX (SP),ii`: `11i11101 11100011`, R268. -/
  | exMSpIi (i : Idx)
  /-- `PUSH ii`: `11i11101 11100101`, R251. -/
  | pushIi (i : Idx)
  /-- `JP (ii)`: `11i11101 11101001`, R405. -/
  | jpIi (i : Idx)
  /-- `LD SP,ii`: `11i11101 11111001`, R265. -/
  | ldSpIi (i : Idx)
  /-- `prefix ignored (DD/FD + unaffected opcode)`: `11i11101`, R451. -/
  | ignoredPrefix (i : Idx)
  /-- `RLC (ii+d)`: `11i11101 11001011 dddddddd 00000110`, R375. -/
  | rlcMIx (i : Idx) (d : Byte)
  /-- `RLC (ii+d),r (copy)`: `11i11101 11001011 dddddddd 00000rrr`, R375. -/
  | rlcMIxCopy (i : Idx) (d : Byte) (r : Reg8)
  /-- `RRC (ii+d)`: `11i11101 11001011 dddddddd 00001110`, R376. -/
  | rrcMIx (i : Idx) (d : Byte)
  /-- `RRC (ii+d),r (copy)`: `11i11101 11001011 dddddddd 00001rrr`, R376. -/
  | rrcMIxCopy (i : Idx) (d : Byte) (r : Reg8)
  /-- `RL (ii+d)`: `11i11101 11001011 dddddddd 00010110`, R377. -/
  | rlMIx (i : Idx) (d : Byte)
  /-- `RL (ii+d),r (copy)`: `11i11101 11001011 dddddddd 00010rrr`, R377. -/
  | rlMIxCopy (i : Idx) (d : Byte) (r : Reg8)
  /-- `RR (ii+d)`: `11i11101 11001011 dddddddd 00011110`, R378. -/
  | rrMIx (i : Idx) (d : Byte)
  /-- `RR (ii+d),r (copy)`: `11i11101 11001011 dddddddd 00011rrr`, R378. -/
  | rrMIxCopy (i : Idx) (d : Byte) (r : Reg8)
  /-- `SLA (ii+d)`: `11i11101 11001011 dddddddd 00100110`, R379. -/
  | slaMIx (i : Idx) (d : Byte)
  /-- `SLA (ii+d),r (copy)`: `11i11101 11001011 dddddddd 00100rrr`, R379. -/
  | slaMIxCopy (i : Idx) (d : Byte) (r : Reg8)
  /-- `SRA (ii+d)`: `11i11101 11001011 dddddddd 00101110`, R380. -/
  | sraMIx (i : Idx) (d : Byte)
  /-- `SRA (ii+d),r (copy)`: `11i11101 11001011 dddddddd 00101rrr`, R380. -/
  | sraMIxCopy (i : Idx) (d : Byte) (r : Reg8)
  /-- `SLL (ii+d)`: `11i11101 11001011 dddddddd 00110110`, R381. -/
  | sllMIx (i : Idx) (d : Byte)
  /-- `SLL (ii+d),r (copy)`: `11i11101 11001011 dddddddd 00110rrr`, R381. -/
  | sllMIxCopy (i : Idx) (d : Byte) (r : Reg8)
  /-- `SRL (ii+d)`: `11i11101 11001011 dddddddd 00111110`, R382. -/
  | srlMIx (i : Idx) (d : Byte)
  /-- `SRL (ii+d),r (copy)`: `11i11101 11001011 dddddddd 00111rrr`, R382. -/
  | srlMIxCopy (i : Idx) (d : Byte) (r : Reg8)
  /-- `BIT b,(ii+d)`: `11i11101 11001011 dddddddd 01bbb110`, R385. -/
  | bitBMIx (i : Idx) (bit : BitVec 3) (d : Byte)
  /-- `BIT b,(ii+d) (duplicate)`: `11i11101 11001011 dddddddd 01bbbzzz`, R385. -/
  | bitBMIxDup (i : Idx) (bit : BitVec 3) (d : Byte) (r : Reg8)
  /-- `RES b,(ii+d)`: `11i11101 11001011 dddddddd 10bbb110`, R387. -/
  | resBMIx (i : Idx) (bit : BitVec 3) (d : Byte)
  /-- `RES b,(ii+d),r (copy)`: `11i11101 11001011 dddddddd 10bbbrrr`, R387. -/
  | resBMIxCopy (i : Idx) (bit : BitVec 3) (d : Byte) (r : Reg8)
  /-- `SET b,(ii+d)`: `11i11101 11001011 dddddddd 11bbb110`, R386. -/
  | setBMIx (i : Idx) (bit : BitVec 3) (d : Byte)
  /-- `SET b,(ii+d),r (copy)`: `11i11101 11001011 dddddddd 11bbbrrr`, R386. -/
  | setBMIxCopy (i : Idx) (bit : BitVec 3) (d : Byte) (r : Reg8)
  /-- `RESTORE`: `0000hVrr`, R640. -/
  | wdRestore (h : Bool) (v : Bool) (r : BitVec 2)
  /-- `SEEK`: `0001hVrr`, R642. -/
  | wdSeek (h : Bool) (v : Bool) (r : BitVec 2)
  /-- `STEP`: `001uhVrr`, R643. -/
  | wdStep (u : Bool) (h : Bool) (v : Bool) (r : BitVec 2)
  /-- `STEP-IN`: `010uhVrr`, R644. -/
  | wdStepIn (u : Bool) (h : Bool) (v : Bool) (r : BitVec 2)
  /-- `STEP-OUT`: `011uhVrr`, R645. -/
  | wdStepOut (u : Bool) (h : Bool) (v : Bool) (r : BitVec 2)
  /-- `READ SECTOR`: `100mSEC0`, R646. -/
  | wdReadSector (m : Bool) (side : Bool) (e : Bool) (c : Bool)
  /-- `WRITE SECTOR`: `101mSECa`, R647. -/
  | wdWriteSector (m : Bool) (side : Bool) (e : Bool) (c : Bool) (a0 : Bool)
  /-- `READ ADDRESS`: `11000E00`, R648. -/
  | wdReadAddress (e : Bool)
  /-- `READ TRACK`: `11100E00`, R649. -/
  | wdReadTrack (e : Bool)
  /-- `WRITE TRACK`: `11110E00`, R650. -/
  | wdWriteTrack (e : Bool)
  /-- `FORCE INTERRUPT`: `1101IIII`, R651. -/
  | wdForceInterrupt (cond : BitVec 4)
  deriving DecidableEq, Repr

end Sys2Proof
end

