-- ==== Sys2Proof/Machine/Operands.lean ====
section
/-! DEFINITION. Register operands by name, conditions, and the operand forms: the bus sequence an
instruction performs before its own effect (30 R180 to R197, 41 R301, 42 R374). -/

namespace Sys2Proof.Machine

/-! ## Registers -/

/-- A register pair. -/
def Cpu.bc (c : Cpu) : Word := mkWord c.b c.c
/-- A register pair. -/
def Cpu.de (c : Cpu) : Word := mkWord c.d c.e
/-- A register pair. -/
def Cpu.hl (c : Cpu) : Word := mkWord c.h c.l
/-- A register pair. -/
def Cpu.af (c : Cpu) : Word := mkWord c.a c.f

/-- BC set. -/
def Cpu.setBc (c : Cpu) (w : Word) : Cpu := { c with b := hiByte w, c := loByte w }
/-- DE set. -/
def Cpu.setDe (c : Cpu) (w : Word) : Cpu := { c with d := hiByte w, e := loByte w }
/-- HL set. -/
def Cpu.setHl (c : Cpu) (w : Word) : Cpu := { c with h := hiByte w, l := loByte w }
/-- AF set. -/
def Cpu.setAf (c : Cpu) (w : Word) : Cpu := { c with a := hiByte w, f := loByte w }

/-- An 8-bit register (30 R182). -/
def Cpu.reg (c : Cpu) : Reg8 → Byte
  | .b => c.b | .c => c.c | .d => c.d | .e => c.e | .h => c.h | .l => c.l | .a => c.a

/-- An 8-bit register set (30 R182). -/
def Cpu.setReg (c : Cpu) (r : Reg8) (v : Byte) : Cpu :=
  match r with
  | .b => { c with b := v }
  | .c => { c with c := v }
  | .d => { c with d := v }
  | .e => { c with e := v }
  | .h => { c with h := v }
  | .l => { c with l := v }
  | .a => { c with a := v }

/-- A register pair rp (30 R183). -/
def Cpu.pair (c : Cpu) : RegPair → Word
  | .bc => c.bc | .de => c.de | .hl => c.hl | .sp => c.sp

/-- A register pair rp set (30 R183). -/
def Cpu.setPair (c : Cpu) (p : RegPair) (w : Word) : Cpu :=
  match p with
  | .bc => c.setBc w
  | .de => c.setDe w
  | .hl => c.setHl w
  | .sp => { c with sp := w }

/-- A register pair rp2 (30 R183). -/
def Cpu.stackPair (c : Cpu) : StackPair → Word
  | .bc => c.bc | .de => c.de | .hl => c.hl | .af => c.af

/-- A register pair rp2 set (30 R183). -/
def Cpu.setStackPair (c : Cpu) (p : StackPair) (w : Word) : Cpu :=
  match p with
  | .bc => c.setBc w
  | .de => c.setDe w
  | .hl => c.setHl w
  | .af => c.setAf w

/-- IX or IY (30 R192). -/
def Cpu.idx (c : Cpu) : Idx → Word
  | .ix => c.ix | .iy => c.iy

/-- IX or IY set (30 R192). -/
def Cpu.setIdx (c : Cpu) (i : Idx) (w : Word) : Cpu :=
  match i with
  | .ix => { c with ix := w }
  | .iy => { c with iy := w }

/-- iH or iL (10 R33, 30 R196). -/
def Cpu.half (c : Cpu) (i : Idx) (h : Half) : Byte :=
  match h with
  | .ih => hiByte (c.idx i)
  | .il => loByte (c.idx i)

/-- iH or iL set (10 R33, 30 R196). -/
def Cpu.setHalf (c : Cpu) (i : Idx) (h : Half) (v : Byte) : Cpu :=
  match h with
  | .ih => c.setIdx i (mkWord v (loByte (c.idx i)))
  | .il => c.setIdx i (mkWord (hiByte (c.idx i)) v)

/-- A register of the half-register field (30 R196). -/
def Cpu.halfReg (c : Cpu) (i : Idx) : HalfReg → Byte
  | .b => c.b | .c => c.c | .d => c.d | .e => c.e | .a => c.a
  | .ih => c.half i .ih | .il => c.half i .il

/-- A register of the half-register field set (30 R196). -/
def Cpu.setHalfReg (c : Cpu) (i : Idx) (r : HalfReg) (v : Byte) : Cpu :=
  match r with
  | .b => { c with b := v }
  | .c => { c with c := v }
  | .d => { c with d := v }
  | .e => { c with e := v }
  | .a => { c with a := v }
  | .ih => c.setHalf i .ih v
  | .il => c.setHalf i .il v

/-- The pair of `ADD ii,pp` (41 R324). -/
def Cpu.idxPair (c : Cpu) (i : Idx) : IdxPair → Word
  | .bc => c.bc | .de => c.de | .ii => c.idx i | .sp => c.sp

/-- A change of the registers. -/
def State.mapCpu (s : State) (f : Cpu → Cpu) : State := { s with cpu := f s.cpu }

/-- A and F set. -/
def State.setAF (s : State) (a f : Byte) : State := { s with cpu := { s.cpu with a := a, f := f } }

/-- F set. -/
def State.setF (s : State) (f : Byte) : State := { s with cpu := { s.cpu with f := f } }

/-- A set. -/
def State.setA (s : State) (a : Byte) : State := { s with cpu := { s.cpu with a := a } }

/-- A condition (30 R190). -/
def condHolds (f : Byte) : Cond → Bool
  | .nz => !flagZ f | .z => flagZ f | .nc => !flagC f | .c => flagC f
  | .po => !flagPV f | .pe => flagPV f | .p => !flagS f | .m => flagS f

/-- A condition of `JR cc` (43 R403). -/
def jrHolds (f : Byte) : JrCond → Bool
  | .nz => !flagZ f | .z => flagZ f | .nc => !flagC f | .c => flagC f

/-! ## Addresses -/

/-- `EA = (ii + sext_16(d)) mod 2^16` (40 R233). -/
def Cpu.ea (c : Cpu) (i : Idx) (d : Byte) : Word := c.idx i + sext16 d

/-- The target of a relative jump: the address after its two bytes plus e (30 R187, 43 R402). -/
def relTarget (pc : Word) (e : Byte) : Word := pc + 2 + sext16 e

/-! ## Instruction bytes: the bus sequence that reads the instruction itself. PC is not yet moved. -/

/-- One opcode byte: `Fetch(PC)`. -/
def fetchOp (s : State) : State := fetch s.cpu.pc s

/-- Two opcode bytes: `Fetch(PC); Fetch(PC+1)`. -/
def fetchOp2 (s : State) : State := fetch (s.cpu.pc + 1) (fetch s.cpu.pc s)

/-- An opcode byte and a byte operand. -/
def fetchOpN (s : State) : State := skipRead (s.cpu.pc + 1) (fetchOp s)

/-- An opcode byte and a word operand. -/
def fetchOpNn (s : State) : State := skipRead (s.cpu.pc + 2) (fetchOpN s)

/-- Two opcode bytes and a byte operand. -/
def fetchOp2N (s : State) : State := skipRead (s.cpu.pc + 2) (fetchOp2 s)

/-- Two opcode bytes and a word operand. -/
def fetchOp2Nn (s : State) : State := skipRead (s.cpu.pc + 3) (fetchOp2N s)

/-- Two opcode bytes, a displacement and the 5 T-states after it (40 R233, 41 R301). -/
def fetchIdx (s : State) : State := internal (s.cpu.pc + 2) 5 (fetchOp2N s)

/-- Two opcode bytes, a displacement, the last opcode byte and the 2 T-states after it (42 R374). -/
def fetchXcb (s : State) : State := internal (s.cpu.pc + 3) 2 (fetchOp2Nn s)

/-! ## Source operands of the ALU instructions (41 R301) -/

/-- Form `(HL)`. -/
def srcMHl (s : State) : Byte × State := memRead s.cpu.hl (fetchOp s)

/-- Form `(ii+d)`. -/
def srcMIx (i : Idx) (d : Byte) (s : State) : Byte × State := memRead (s.cpu.ea i d) (fetchIdx s)

/-! ## Operands read, changed and written back (41 R311, R312; 42 R374) -/

/-- `v <- MemRead(a); Internal(a, 1); MemWrite(a, f v)`: the old value and the state. -/
def modify (a : Word) (f : Byte → Byte) (s : State) : Byte × State :=
  let m := memRead a s
  (m.1, memWrite a (f m.1) (internal a 1 m.2))

/-- `v <- MemRead(a); Internal(a, 1)`: the operand of BIT on memory (42 R374). -/
def probe (a : Word) (s : State) : Byte × State :=
  let m := memRead a s
  (m.1, internal a 1 m.2)

end Sys2Proof.Machine
end

