-- ==== Sys2Proof/Machine/Arith.lean ====
section
/-! DEFINITION. Arithmetic and logic (41_z80_arith.md R300 to R329). -/

namespace Sys2Proof.Machine

/-- An 8-bit ALU operation: from A, the operand and the carry, the new A and F. -/
abbrev Alu := Byte → Byte → Bool → Byte × Byte

/-- ADD (41 R302). -/
def aluAdd : Alu := fun a v _ => addByte a v false
/-- ADC (41 R303). -/
def aluAdc : Alu := addByte
/-- SUB (41 R304). -/
def aluSub : Alu := fun a v _ => subByte a v false
/-- SBC (41 R305). -/
def aluSbc : Alu := subByte
/-- AND (41 R306). -/
def aluAnd : Alu := fun a v _ => (a &&& v, andF (a &&& v))
/-- XOR (41 R307). -/
def aluXor : Alu := fun a v _ => (a ^^^ v, orF (a ^^^ v))
/-- OR (41 R308). -/
def aluOr : Alu := fun a v _ => (a ||| v, orF (a ||| v))
/-- CP: A is unchanged (41 R309). -/
def aluCp : Alu := fun a v _ => (a, compareF a v)

/-- An ALU operation on A, the operand read. -/
def applyAlu (op : Alu) (v : Byte) (t : State) : State :=
  let r := op t.cpu.a v (flagC t.cpu.f)
  t.setAF r.1 r.2

/-- Form `r` (41 R301). -/
def aluOnReg (op : Alu) (r : Reg8) (s : State) : State := (applyAlu op (s.cpu.reg r) (fetchOp s)).skip 1

/-- Form `(HL)` (41 R301). -/
def aluOnMHl (op : Alu) (s : State) : State :=
  let m := srcMHl s
  (applyAlu op m.1 m.2).skip 1

/-- Form `n` (41 R301). -/
def aluOnImm (op : Alu) (n : Byte) (s : State) : State := (applyAlu op n (fetchOpN s)).skip 2

/-- Form `(ii+d)` (41 R301). -/
def aluOnMIx (op : Alu) (i : Idx) (d : Byte) (s : State) : State :=
  let m := srcMIx i d s
  (applyAlu op m.1 m.2).skip 3

/-- Form `iH`, `iL` (41 R301). -/
def aluOnHalf (op : Alu) (i : Idx) (h : Half) (s : State) : State :=
  (applyAlu op (s.cpu.half i h) (fetchOp2 s)).skip 2

/-- `ADD A,r` (41 R302). -/
def execAddAR (r : Reg8) (s : State) : Result :=
  .next (aluOnReg aluAdd r s)

/-- `ADD A,(HL)` (41 R302). -/
def execAddAMHl (s : State) : Result :=
  .next (aluOnMHl aluAdd s)

/-- `ADD A,n` (41 R302). -/
def execAddAN (n : Byte) (s : State) : Result :=
  .next (aluOnImm aluAdd n s)

/-- `ADD A,iH/iL` (41 R302). -/
def execAddAIhl (i : Idx) (h : Half) (s : State) : Result :=
  undocumented s (aluOnHalf aluAdd i h s)

/-- `ADD A,(ii+d)` (41 R302). -/
def execAddAMIx (i : Idx) (d : Byte) (s : State) : Result :=
  .next (aluOnMIx aluAdd i d s)

/-- `ADC A,r` (41 R303). -/
def execAdcAR (r : Reg8) (s : State) : Result :=
  .next (aluOnReg aluAdc r s)

/-- `ADC A,(HL)` (41 R303). -/
def execAdcAMHl (s : State) : Result :=
  .next (aluOnMHl aluAdc s)

/-- `ADC A,n` (41 R303). -/
def execAdcAN (n : Byte) (s : State) : Result :=
  .next (aluOnImm aluAdc n s)

/-- `ADC A,iH/iL` (41 R303). -/
def execAdcAIhl (i : Idx) (h : Half) (s : State) : Result :=
  undocumented s (aluOnHalf aluAdc i h s)

/-- `ADC A,(ii+d)` (41 R303). -/
def execAdcAMIx (i : Idx) (d : Byte) (s : State) : Result :=
  .next (aluOnMIx aluAdc i d s)

/-- `SUB r` (41 R304). -/
def execSubAR (r : Reg8) (s : State) : Result :=
  .next (aluOnReg aluSub r s)

/-- `SUB (HL)` (41 R304). -/
def execSubAMHl (s : State) : Result :=
  .next (aluOnMHl aluSub s)

/-- `SUB n` (41 R304). -/
def execSubAN (n : Byte) (s : State) : Result :=
  .next (aluOnImm aluSub n s)

/-- `SUB iH/iL` (41 R304). -/
def execSubAIhl (i : Idx) (h : Half) (s : State) : Result :=
  undocumented s (aluOnHalf aluSub i h s)

/-- `SUB (ii+d)` (41 R304). -/
def execSubAMIx (i : Idx) (d : Byte) (s : State) : Result :=
  .next (aluOnMIx aluSub i d s)

/-- `SBC A,r` (41 R305). -/
def execSbcAR (r : Reg8) (s : State) : Result :=
  .next (aluOnReg aluSbc r s)

/-- `SBC A,(HL)` (41 R305). -/
def execSbcAMHl (s : State) : Result :=
  .next (aluOnMHl aluSbc s)

/-- `SBC A,n` (41 R305). -/
def execSbcAN (n : Byte) (s : State) : Result :=
  .next (aluOnImm aluSbc n s)

/-- `SBC A,iH/iL` (41 R305). -/
def execSbcAIhl (i : Idx) (h : Half) (s : State) : Result :=
  undocumented s (aluOnHalf aluSbc i h s)

/-- `SBC A,(ii+d)` (41 R305). -/
def execSbcAMIx (i : Idx) (d : Byte) (s : State) : Result :=
  .next (aluOnMIx aluSbc i d s)

/-- `AND r` (41 R306). -/
def execAndAR (r : Reg8) (s : State) : Result :=
  .next (aluOnReg aluAnd r s)

/-- `AND (HL)` (41 R306). -/
def execAndAMHl (s : State) : Result :=
  .next (aluOnMHl aluAnd s)

/-- `AND n` (41 R306). -/
def execAndAN (n : Byte) (s : State) : Result :=
  .next (aluOnImm aluAnd n s)

/-- `AND iH/iL` (41 R306). -/
def execAndAIhl (i : Idx) (h : Half) (s : State) : Result :=
  undocumented s (aluOnHalf aluAnd i h s)

/-- `AND (ii+d)` (41 R306). -/
def execAndAMIx (i : Idx) (d : Byte) (s : State) : Result :=
  .next (aluOnMIx aluAnd i d s)

/-- `XOR r` (41 R307). -/
def execXorAR (r : Reg8) (s : State) : Result :=
  .next (aluOnReg aluXor r s)

/-- `XOR (HL)` (41 R307). -/
def execXorAMHl (s : State) : Result :=
  .next (aluOnMHl aluXor s)

/-- `XOR n` (41 R307). -/
def execXorAN (n : Byte) (s : State) : Result :=
  .next (aluOnImm aluXor n s)

/-- `XOR iH/iL` (41 R307). -/
def execXorAIhl (i : Idx) (h : Half) (s : State) : Result :=
  undocumented s (aluOnHalf aluXor i h s)

/-- `XOR (ii+d)` (41 R307). -/
def execXorAMIx (i : Idx) (d : Byte) (s : State) : Result :=
  .next (aluOnMIx aluXor i d s)

/-- `OR r` (41 R308). -/
def execOrAR (r : Reg8) (s : State) : Result :=
  .next (aluOnReg aluOr r s)

/-- `OR (HL)` (41 R308). -/
def execOrAMHl (s : State) : Result :=
  .next (aluOnMHl aluOr s)

/-- `OR n` (41 R308). -/
def execOrAN (n : Byte) (s : State) : Result :=
  .next (aluOnImm aluOr n s)

/-- `OR iH/iL` (41 R308). -/
def execOrAIhl (i : Idx) (h : Half) (s : State) : Result :=
  undocumented s (aluOnHalf aluOr i h s)

/-- `OR (ii+d)` (41 R308). -/
def execOrAMIx (i : Idx) (d : Byte) (s : State) : Result :=
  .next (aluOnMIx aluOr i d s)

/-- `CP r` (41 R309). -/
def execCpAR (r : Reg8) (s : State) : Result :=
  .next (aluOnReg aluCp r s)

/-- `CP (HL)` (41 R309). -/
def execCpAMHl (s : State) : Result :=
  .next (aluOnMHl aluCp s)

/-- `CP n` (41 R309). -/
def execCpAN (n : Byte) (s : State) : Result :=
  .next (aluOnImm aluCp n s)

/-- `CP iH/iL` (41 R309). -/
def execCpAIhl (i : Idx) (h : Half) (s : State) : Result :=
  undocumented s (aluOnHalf aluCp i h s)

/-- `CP (ii+d)` (41 R309). -/
def execCpAMIx (i : Idx) (d : Byte) (s : State) : Result :=
  .next (aluOnMIx aluCp i d s)

/-- An increment or decrement of a byte: the result and F from the byte and the old F. -/
abbrev Step8 := Byte → Byte → Byte × Byte

/-- INC and DEC of a register (41 R310, R313). -/
def stepReg (op : Step8) (r : Reg8) (s : State) : State :=
  let o := op (s.cpu.reg r) s.cpu.f
  (((fetchOp s).mapCpu fun c => c.setReg r o.1).setF o.2).skip 1

/-- INC and DEC of an index half (41 R310, R313). -/
def stepHalf (op : Step8) (i : Idx) (h : Half) (s : State) : State :=
  let o := op (s.cpu.half i h) s.cpu.f
  (((fetchOp2 s).mapCpu fun c => c.setHalf i h o.1).setF o.2).skip 2

/-- INC and DEC of a memory byte at `a`, the instruction's bytes read (41 R311, R312). -/
def stepMem (op : Step8) (a : Word) (t : State) : State :=
  let m := modify a (fun v => (op v t.cpu.f).1) t
  m.2.setF (op m.1 t.cpu.f).2

/-- `INC r` (41 R310). -/
def execIncR (r : Reg8) (s : State) : Result :=
  .next (stepReg incByte r s)

/-- `INC iH/iL` (41 R310). -/
def execIncIhl (i : Idx) (h : Half) (s : State) : Result :=
  undocumented s (stepHalf incByte i h s)

/-- `INC (HL)` (41 R311). -/
def execIncMHl (s : State) : Result :=
  .next ((stepMem incByte s.cpu.hl (fetchOp s)).skip 1)

/-- `INC (ii+d)` (41 R312). -/
def execIncMIx (i : Idx) (d : Byte) (s : State) : Result :=
  .next ((stepMem incByte (s.cpu.ea i d) (fetchIdx s)).skip 3)

/-- `DEC r` (41 R313). -/
def execDecR (r : Reg8) (s : State) : Result :=
  .next (stepReg decByte r s)

/-- `DEC iH/iL` (41 R313). -/
def execDecIhl (i : Idx) (h : Half) (s : State) : Result :=
  undocumented s (stepHalf decByte i h s)

/-- `DEC (HL)` (41 R314). -/
def execDecMHl (s : State) : Result :=
  .next ((stepMem decByte s.cpu.hl (fetchOp s)).skip 1)

/-- `DEC (ii+d)` (41 R315). -/
def execDecMIx (i : Idx) (d : Byte) (s : State) : Result :=
  .next ((stepMem decByte (s.cpu.ea i d) (fetchIdx s)).skip 3)

/-! ## Accumulator and flag operations -/

/-- `DAA` (41 R316). -/
def execDaa (s : State) : Result :=
  let o := daaByte s.cpu.a s.cpu.f
  .next (((fetchOp s).setAF o.1 o.2).skip 1)

/-- `CPL` (41 R317). -/
def execCpl (s : State) : Result :=
  let res := s.cpu.a ^^^ 0xFF
  .next (((fetchOp s).setAF res (cplF res s.cpu.f)).skip 1)

/-- A negated, the two opcode bytes read (41 R318). -/
def negate (s : State) : State :=
  let o := subByte 0 s.cpu.a false
  ((fetchOp2 s).setAF o.1 o.2).skip 2

/-- `NEG` (41 R318). -/
def execNeg (s : State) : Result :=
  .next (negate s)

/-- `NEG (duplicate)` (41 R318). -/
def execNegDup (_y : BitVec 3) (s : State) : Result :=
  undocumented s (negate s)

/-- A flag operation with Y and X drawn (41 R319, R320). -/
def drawnFlags (op : Byte → Bool → Bool → Byte) (s : State) : State :=
  let y := drawBool (fetchOp s)
  let x := drawBool y.2
  (x.2.setF (op s.cpu.f y.1 x.1)).skip 1

/-- `CCF` (41 R319). -/
def execCcf (s : State) : Result :=
  .next (drawnFlags ccfF s)

/-- `SCF` (41 R320). -/
def execScf (s : State) : Result :=
  .next (drawnFlags scfF s)

/-! ## 16-bit arithmetic -/

/-- `ADD HL,ss` (41 R321). -/
def execAddHlRr (rr : RegPair) (s : State) : Result :=
  let o := addWord s.cpu.hl (s.cpu.pair rr) s.cpu.f
  .next ((((internalIr 7 (fetchOp s)).mapCpu fun c => c.setHl o.1).setF o.2).skip 1)

/-- ADC and SBC of HL, the result and F given (41 R322, R323). -/
def wordToHl (o : Word × Byte) (s : State) : State :=
  (((internalIr 7 (fetchOp2 s)).mapCpu fun c => c.setHl o.1).setF o.2).skip 2

/-- `ADC HL,ss` (41 R322). -/
def execAdcHlRr (rr : RegPair) (s : State) : Result :=
  .next (wordToHl (adcWord s.cpu.hl (s.cpu.pair rr) (flagC s.cpu.f)) s)

/-- `SBC HL,ss` (41 R323). -/
def execSbcHlRr (rr : RegPair) (s : State) : Result :=
  .next (wordToHl (sbcWord s.cpu.hl (s.cpu.pair rr) (flagC s.cpu.f)) s)

/-- `ADD ii,pp` (41 R324). -/
def execAddIiRr (i : Idx) (pp : IdxPair) (s : State) : Result :=
  let o := addWord (s.cpu.idx i) (s.cpu.idxPair i pp) s.cpu.f
  .next ((((internalIr 7 (fetchOp2 s)).mapCpu fun c => c.setIdx i o.1).setF o.2).skip 2)

/-- `INC ss` (41 R325). -/
def execIncRr (rr : RegPair) (s : State) : Result :=
  .next (((internalIr 2 (fetchOp s)).mapCpu fun c => c.setPair rr (c.pair rr + 1)).skip 1)

/-- `INC ii` (41 R326). -/
def execIncIi (i : Idx) (s : State) : Result :=
  .next (((internalIr 2 (fetchOp2 s)).mapCpu fun c => c.setIdx i (c.idx i + 1)).skip 2)

/-- `DEC ss` (41 R327). -/
def execDecRr (rr : RegPair) (s : State) : Result :=
  .next (((internalIr 2 (fetchOp s)).mapCpu fun c => c.setPair rr (c.pair rr - 1)).skip 1)

/-- `DEC ii` (41 R328). -/
def execDecIi (i : Idx) (s : State) : Result :=
  .next (((internalIr 2 (fetchOp2 s)).mapCpu fun c => c.setIdx i (c.idx i - 1)).skip 2)

end Sys2Proof.Machine
end

