-- ==== Sys2Proof/Machine/Block.lean ====
section
/-! DEFINITION. Block transfer and search (40_z80_load.md R269 to R277) and block I/O (43_z80_control_io.md R433 to
R436, R440 to R443). One execution of a repeating instruction is one iteration (40 R269). -/

namespace Sys2Proof.Machine

/-- The step of a pointer: up for the incrementing instructions, down for the others. -/
inductive Direction where
  | up | down
  deriving DecidableEq, Repr

/-- The pointer's change. -/
def Direction.delta : Direction → Word
  | .up => 1
  | .down => 0xFFFF

/-- C's change in the block input instructions (43 R433, R435). -/
def Direction.deltaByte : Direction → Byte
  | .up => 1
  | .down => 0xFF

/-- PC left where it is and 5 T-states at `a`: an iteration that repeats (40 R269). -/
def repeatAt (a : Word) (t : State) : State := internal a 5 t

/-! ## Transfer -/

/-- The shared part of the block copies: the bus sequence, the pointers and the count; the byte copied
and the state (40 R270, R272). -/
def copyStep (dir : Direction) (s : State) : Byte × State :=
  let m := memRead s.cpu.hl (fetchOp2 s)
  let t := internal s.cpu.de 2 (memWrite s.cpu.de m.1 m.2)
  (m.1, t.mapCpu fun c =>
    ((c.setHl (c.hl + dir.delta)).setDe (c.de + dir.delta)).setBc (c.bc - 1))

/-- PV of the block copies and searches: BC is not 0 after the decrement (40 R270). -/
def countPv (t : State) : Bool := t.cpu.bc != 0

/-- The end of a copy that does not repeat: Y and X from k (40 R270). -/
def copyEnd (v : Byte) (t : State) : State :=
  let k := copyK v t.cpu.a
  (t.setF (copyF t.cpu.f (countPv t) (k.getLsbD 1) (k.getLsbD 3))).skip 2

/-- The end of a copy that repeats: Y and X drawn, PC unchanged (40 R269, R271). -/
def copyRepeat (d0 : Word) (t : State) : State :=
  let y := drawBool t
  let x := drawBool y.2
  repeatAt d0 (x.2.setF (copyF t.cpu.f (countPv t) y.1 x.1))

/-- One iteration of LDIR or LDDR (40 R271, R273). -/
def copyIteration (dir : Direction) (s : State) : State :=
  let r := copyStep dir s
  if countPv r.2 then copyRepeat s.cpu.de r.2 else copyEnd r.1 r.2

/-- `LDI` (40 R270). -/
def execLdi (s : State) : Result :=
  let r := copyStep .up s
  .next (copyEnd r.1 r.2)

/-- `LDIR`, one iteration (40 R271). -/
def execLdir (s : State) : Result :=
  .next (copyIteration .up s)

/-- `LDD` (40 R272). -/
def execLdd (s : State) : Result :=
  let r := copyStep .down s
  .next (copyEnd r.1 r.2)

/-- `LDDR`, one iteration (40 R273). -/
def execLddr (s : State) : Result :=
  .next (copyIteration .down s)

/-! ## Search -/

/-- The shared part of the block searches: the byte read and the state (40 R274, R276). -/
def searchStep (dir : Direction) (s : State) : Byte × State :=
  let m := memRead s.cpu.hl (fetchOp2 s)
  (m.1, (internal s.cpu.hl 5 m.2).mapCpu fun c => (c.setHl (c.hl + dir.delta)).setBc (c.bc - 1))

/-- The end of a search that does not repeat: Y and X from k (40 R274). -/
def searchEnd (v : Byte) (t : State) : State :=
  let k := searchK t.cpu.a v
  (t.setF (searchF t.cpu.a v t.cpu.f (countPv t) (k.getLsbD 1) (k.getLsbD 3))).skip 2

/-- The end of a search that repeats: Y and X drawn, PC unchanged (40 R269, R275). -/
def searchRepeat (h0 : Word) (v : Byte) (t : State) : State :=
  let y := drawBool t
  let x := drawBool y.2
  repeatAt h0 (x.2.setF (searchF t.cpu.a v t.cpu.f (countPv t) y.1 x.1))

/-- One iteration of CPIR or CPDR (40 R275, R277). -/
def searchIteration (dir : Direction) (s : State) : State :=
  let r := searchStep dir s
  if countPv r.2 && r.2.cpu.a - r.1 != 0 then searchRepeat s.cpu.hl r.1 r.2 else searchEnd r.1 r.2

/-- `CPI` (40 R274). -/
def execCpi (s : State) : Result :=
  let r := searchStep .up s
  .next (searchEnd r.1 r.2)

/-- `CPIR`, one iteration (40 R275). -/
def execCpir (s : State) : Result :=
  .next (searchIteration .up s)

/-- `CPD` (40 R276). -/
def execCpd (s : State) : Result :=
  let r := searchStep .down s
  .next (searchEnd r.1 r.2)

/-- `CPDR`, one iteration (40 R277). -/
def execCpdr (s : State) : Result :=
  .next (searchIteration .down s)

/-! ## Input and output -/

/-- The end of a block I/O instruction that does not repeat (43 R433, R440). -/
def blockIoEnd (v : Byte) (k : Nat) (t : State) : State :=
  let b := t.cpu.b
  (t.setF (blockIoF b v k (decide (k > 255)) (blockIoPv k b) (b.getLsbD 5) (b.getLsbD 3))).skip 2

/-- The end of a block I/O instruction that repeats: H, PV, Y and X drawn, PC unchanged (43 R434). -/
def blockIoRepeat (a : Word) (v : Byte) (k : Nat) (t : State) : State :=
  let h := drawBool t
  let pv := drawBool h.2
  let y := drawBool pv.2
  let x := drawBool y.2
  repeatAt a (x.2.setF (blockIoF t.cpu.b v k h.1 pv.1 y.1 x.1))

/-- The shared part of the block inputs: the port is read before B is decremented; the byte read and
the state (43 R433, R435). -/
def inStep (dir : Direction) (s : State) : Byte × State :=
  let v := ioRead s.cpu.bc (internalIr 1 (fetchOp2 s))
  let t := memWrite s.cpu.hl v.1 v.2
  (v.1, t.mapCpu fun c => { c.setHl (c.hl + dir.delta) with b := c.b - 1 })

/-- `k` of a block input (43 R433, R435). -/
def inK (dir : Direction) (v : Byte) (t : State) : Nat := v.toNat + (t.cpu.c + dir.deltaByte).toNat

/-- One iteration of INIR or INDR (43 R434, R436). -/
def inIteration (dir : Direction) (s : State) : State :=
  let r := inStep dir s
  if r.2.cpu.b = 0 then blockIoEnd r.1 (inK dir r.1 r.2) r.2
  else blockIoRepeat s.cpu.hl r.1 (inK dir r.1 r.2) r.2

/-- The shared part of the block outputs: B is decremented before the port is written; the byte written
and the state (43 R440, R442). -/
def outStep (dir : Direction) (s : State) : Byte × State :=
  let m := memRead s.cpu.hl (internalIr 1 (fetchOp2 s))
  let t := m.2.mapCpu fun c => { c with b := c.b - 1 }
  (m.1, (ioWrite t.cpu.bc m.1 t).mapCpu fun c => c.setHl (c.hl + dir.delta))

/-- `k` of a block output: L after its change (43 R440). -/
def outK (v : Byte) (t : State) : Nat := v.toNat + t.cpu.l.toNat

/-- One iteration of OTIR or OTDR (43 R441, R443). -/
def outIteration (dir : Direction) (s : State) : State :=
  let r := outStep dir s
  if r.2.cpu.b = 0 then blockIoEnd r.1 (outK r.1 r.2) r.2
  else blockIoRepeat r.2.cpu.bc r.1 (outK r.1 r.2) r.2

/-- `INI` (43 R433). -/
def execIni (s : State) : Result :=
  let r := inStep .up s
  .next (blockIoEnd r.1 (inK .up r.1 r.2) r.2)

/-- `INIR`, one iteration (43 R434). -/
def execInir (s : State) : Result :=
  .next (inIteration .up s)

/-- `IND` (43 R435). -/
def execInd (s : State) : Result :=
  let r := inStep .down s
  .next (blockIoEnd r.1 (inK .down r.1 r.2) r.2)

/-- `INDR`, one iteration (43 R436). -/
def execIndr (s : State) : Result :=
  .next (inIteration .down s)

/-- `OUTI` (43 R440). -/
def execOuti (s : State) : Result :=
  let r := outStep .up s
  .next (blockIoEnd r.1 (outK r.1 r.2) r.2)

/-- `OTIR`, one iteration (43 R441). -/
def execOtir (s : State) : Result :=
  .next (outIteration .up s)

/-- `OUTD` (43 R442). -/
def execOutd (s : State) : Result :=
  let r := outStep .down s
  .next (blockIoEnd r.1 (outK r.1 r.2) r.2)

/-- `OTDR`, one iteration (43 R443). -/
def execOtdr (s : State) : Result :=
  .next (outIteration .down s)

end Sys2Proof.Machine
end

