-- ==== Sys2Proof/Machine/Control.lean ====
section
/-! DEFINITION. Control transfer and CPU control (43_z80_control_io.md R400 to R424, R450, R451). -/

namespace Sys2Proof.Machine

/-! ## Jumps -/

/-- `JP nn` (43 R400). -/
def execJpNn (nn : Word) (s : State) : Result :=
  .next ((fetchOpNn s).setPc nn)

/-- `JP cc,nn` (43 R401). -/
def execJpCNn (cc : Cond) (nn : Word) (s : State) : Result :=
  .next (if condHolds s.cpu.f cc then (fetchOpNn s).setPc nn else (fetchOpNn s).skip 3)

/-- The taken branch of a relative jump, its bytes read (43 R402). -/
def takeRel (pc : Word) (e : Byte) (t : State) : State := (internal (pc + 1) 5 t).setPc (relTarget pc e)

/-- `JR e` (43 R402). -/
def execJr (e : Byte) (s : State) : Result :=
  .next (takeRel s.cpu.pc e (fetchOpN s))

/-- `JR cc,e` (43 R403). -/
def execJrC (cc : JrCond) (e : Byte) (s : State) : Result :=
  .next (if jrHolds s.cpu.f cc then takeRel s.cpu.pc e (fetchOpN s) else (fetchOpN s).skip 2)

/-- `JP (HL)` (43 R404). -/
def execJpHl (s : State) : Result :=
  .next ((fetchOp s).setPc s.cpu.hl)

/-- `JP (ii)` (43 R405). -/
def execJpIi (i : Idx) (s : State) : Result :=
  .next ((fetchOp2 s).setPc (s.cpu.idx i))

/-- `DJNZ e` (43 R406). -/
def execDjnz (e : Byte) (s : State) : Result :=
  let t := skipRead (s.cpu.pc + 1) (internalIr 1 (fetchOp s))
  let b := s.cpu.b - 1
  let u := t.mapCpu fun c => { c with b := b }
  .next (if b = 0 then u.skip 2 else takeRel s.cpu.pc e u)

/-! ## Calls, returns and restarts -/

/-- A call, its bytes read: the return address pushed and PC at the target (43 R407). -/
def call (ret target : Word) (t : State) : State := (push ret t).setPc target

/-- A taken `CALL` of three bytes (43 R407). -/
def callTaken (nn : Word) (s : State) : State :=
  call (s.cpu.pc + 3) nn (internal (s.cpu.pc + 2) 1 (fetchOpNn s))

/-- A return, its bytes read (43 R409). -/
def returnTo (t : State) : State :=
  let p := pop t
  p.2.setPc p.1

/-- `CALL nn` (43 R407). -/
def execCallNn (nn : Word) (s : State) : Result :=
  .next (callTaken nn s)

/-- `CALL cc,nn` (43 R408). -/
def execCallCNn (cc : Cond) (nn : Word) (s : State) : Result :=
  .next (if condHolds s.cpu.f cc then callTaken nn s else (fetchOpNn s).skip 3)

/-- `RET` (43 R409). -/
def execRet (s : State) : Result :=
  .next (returnTo (fetchOp s))

/-- `RET cc` (43 R410). -/
def execRetC (cc : Cond) (s : State) : Result :=
  let t := internalIr 1 (fetchOp s)
  .next (if condHolds s.cpu.f cc then returnTo t else t.skip 1)

/-- `RETI` (43 R411). -/
def execReti (s : State) : Result :=
  .next (returnFromInterrupt (fetchOp2 s))

/-- `RETN` (43 R412). -/
def execRetn (s : State) : Result :=
  .next (returnFromInterrupt (fetchOp2 s))

/-- `RETN (duplicate)` (43 R412). -/
def execRetnDup (_y : BitVec 3) (s : State) : Result :=
  undocumented s (returnFromInterrupt (fetchOp2 s))

/-- `RST t` (43 R413). -/
def execRst (t : BitVec 3) (s : State) : Result :=
  .next (call (s.cpu.pc + 1) (BitVec.ofNat 16 (t.toNat * 8)) (internalIr 1 (fetchOp s)))

/-! ## CPU control -/

/-- `NOP` (43 R420). -/
def execNop (s : State) : Result :=
  .next ((fetchOp s).skip 1)

/-- `HALT` (43 R421). -/
def execHalt (s : State) : Result :=
  .next (((fetchOp s).mapCpu fun c => { c with halted := true }).skip 1)

/-- `DI` (43 R422). -/
def execDi (s : State) : Result :=
  .next (((fetchOp s).mapCpu fun c => { c with iff1 := false, iff2 := false }).skip 1)

/-- `EI` (43 R423). -/
def execEi (s : State) : Result :=
  .next (((fetchOp s).mapCpu fun c => { c with iff1 := true, iff2 := true, eiBlock := true }).skip 1)

/-- The mode of `im[y]` (30 R186). -/
def imOf (y : BitVec 3) : IntMode :=
  match y.toNat with
  | 2 | 6 => .im1
  | 3 | 7 => .im2
  | _ => .im0

/-- IM set, the two opcode bytes read (43 R424). -/
def setIm (m : IntMode) (s : State) : State := ((fetchOp2 s).mapCpu fun c => { c with im := m }).skip 2

/-- `IM 0` (43 R424). -/
def execIm0 (s : State) : Result :=
  .next (setIm .im0 s)

/-- `IM 1` (43 R424). -/
def execIm1 (s : State) : Result :=
  .next (setIm .im1 s)

/-- `IM 2` (43 R424). -/
def execIm2 (s : State) : Result :=
  .next (setIm .im2 s)

/-- `IM (duplicate)` (43 R424). -/
def execImDup (y : BitVec 3) (s : State) : Result :=
  undocumented s (setIm (imOf y) s)

/-! ## Undefined encodings and ignored prefixes -/

/-- `NONI (undefined ED)` (43 R450). -/
def execNoni (_op : Byte) (s : State) : Result :=
  undocumented s ((fetchOp2 s).skip 2)

/-- `NOP (ED 77/7F)` (43 R450). -/
def execNopEd7 (_y : Bool) (s : State) : Result :=
  undocumented s ((fetchOp2 s).skip 2)

/-- An ignored DD or FD prefix (43 R451). -/
def execIgnoredPrefix (_i : Idx) (s : State) : Result :=
  undocumented s (((fetchOp s).mapCpu fun c => { c with eiBlock := true }).skip 1)

end Sys2Proof.Machine
end

