-- ==== Sys2Proof/Machine/Io.lean ====
section
/-! DEFINITION. Input and output of single bytes (43_z80_control_io.md R430 to R432, R437 to R439). -/

namespace Sys2Proof.Machine

/-- The port of `IN A,(n)` and `OUT (n),A`: `(A << 8) | n` (43 R430, R437). -/
def portAn (s : State) (n : Byte) : Word := mkWord s.cpu.a n

/-- A read of port BC with its flags: the byte and the state (43 R431, R432). -/
def inputBc (s : State) : Byte × State :=
  let v := ioRead s.cpu.bc (fetchOp2 s)
  (v.1, v.2.setF (rotF v.1 (flagC s.cpu.f)))

/-- `IN A,(n)` (43 R430). -/
def execInAN (n : Byte) (s : State) : Result :=
  let v := ioRead (portAn s n) (fetchOpN s)
  .next ((v.2.setA v.1).skip 2)

/-- `IN r,(C)` (43 R431). -/
def execInRC (r : Reg8) (s : State) : Result :=
  let v := inputBc s
  .next ((v.2.mapCpu fun c => c.setReg r v.1).skip 2)

/-- `IN F,(C)` (43 R432). -/
def execInFC (s : State) : Result :=
  undocumented s ((inputBc s).2.skip 2)

/-- `OUT (n),A` (43 R437). -/
def execOutNA (n : Byte) (s : State) : Result :=
  .next ((ioWrite (portAn s n) s.cpu.a (fetchOpN s)).skip 2)

/-- `OUT (C),r` (43 R438). -/
def execOutCR (r : Reg8) (s : State) : Result :=
  .next ((ioWrite s.cpu.bc (s.cpu.reg r) (fetchOp2 s)).skip 2)

/-- `OUT (C),0` (43 R439). -/
def execOutC0 (s : State) : Result :=
  undocumented s ((ioWrite s.cpu.bc 0x00 (fetchOp2 s)).skip 2)

end Sys2Proof.Machine
end

