-- ==== Sys2Proof/Machine/Boundary.lean ====
section
/-! DEFINITION. Whether a maskable interrupt is accepted at the next boundary of the frame loop, over the
host actions that a frame's end lets in before it (44 R463, R470, R480; for 40 R244 and R245). -/

namespace Sys2Proof.Machine

/-- A snapshot record is consistent (44 R481). -/
def Snapshot.consistent (c : Cfg) (snap : Snapshot) : Bool :=
  decide (snap.pc < 65536) && decide (snap.sp < 65536) && decide (snap.im ≤ 2)
    && decide (snap.port7FFD < 256)
    && (match snap.tstates with
        | none => true
        | some t => decide (t < (archConfig c).tFrame))

/-- What decides the acceptance of a maskable interrupt at a boundary (44 R463): the flip-flop, the two
states that go before it, and the frame time. -/
structure IntGate where
  iff1 : Bool
  eiBlock : Bool
  nmiPending : Bool
  tstates : Nat
  deriving DecidableEq, Repr

/-- The gate of a state. -/
def State.intGate (s : State) : IntGate :=
  { iff1 := s.cpu.iff1, eiBlock := s.cpu.eiBlock, nmiPending := s.cpu.nmiPending,
    tstates := s.clock.tstates }

/-- The frame loop runs another turn (44 R463). -/
def IntGate.inFrame (c : Cfg) (g : IntGate) : Bool := decide (g.tstates < (archConfig c).tFrame)

/-- A boundary of the frame loop with this gate accepts a maskable interrupt (44 R463). -/
def IntGate.accepts (c : Cfg) (g : IntGate) : Bool :=
  g.inFrame c && !g.nmiPending && intActive c g.tstates && g.iff1 && !g.eiBlock

/-- What a host action between two frames does to the gate (44 R480, R481; 70 R780). -/
def IntGate.afterAction (c : Cfg) (g : IntGate) (a : HostAction) : IntGate :=
  match a with
  | .pulseNmi => { g with nmiPending := true }
  | .loadSnapshot snap =>
    if snap.consistent c then
      { iff1 := snap.cpu.iff1, eiBlock := false, nmiPending := false, tstates := snap.tstates.getD 0 }
    else g
  | .reset => { iff1 := false, eiBlock := false, nmiPending := false, tstates := 0 }
  | .frameStep | .setKeys _ | .setKempston _ | .insertDisk _ _ _ | .ejectDisk _ | .tapeInsert _
  | .tapePlay | .tapeStop => g

/-- The first boundary of the frame loop after these host actions accepts a maskable interrupt. They are
taken up to the `FrameStep` that begins the next frame, for which an empty queue stands too (log 9). A frame
that begins with its time already over ends at once, which 44 R471 rules out in a run (log 11). -/
def acceptsAfter (c : Cfg) (g : IntGate) (q : List HostAction) : Bool :=
  let late (g : IntGate) : IntGate := { g with tstates := g.tstates - (archConfig c).tFrame }
  match q with
  | [] => IntGate.accepts c { g with tstates := g.tstates % (archConfig c).tFrame }
  | .frameStep :: rest => if g.inFrame c then g.accepts c else acceptsAfter c (late g) rest
  | a :: rest => acceptsAfter c (g.afterAction c a) rest

/-- A maskable interrupt is accepted at the next boundary of the frame loop: the one this state stands at,
or, where the frame ends here or has ended, the first one after the host's actions (44 R463, R470, R480;
log 11). -/
def intAtBoundary (s : State) : Bool :=
  let g := s.intGate
  if s.frameBoundary then acceptsAfter s.cfg g s.hostQueue
  else if g.inFrame s.cfg then g.accepts s.cfg
  else acceptsAfter s.cfg { g with tstates := g.tstates - (archConfig s.cfg).tFrame } s.hostQueue

end Sys2Proof.Machine
end

