-- ==== Sys2Proof/Machine/Load.lean ====
section
/-! DEFINITION. Loads, stack and exchanges (40_z80_load.md R230 to R268). -/

namespace Sys2Proof.Machine

/-! ## 8-bit loads -/

/-- `LD r,s` (40 R230). -/
def execLdRS (r : Reg8) (r2 : Reg8) (s : State) : Result :=
  .next (((fetchOp s).mapCpu fun c => c.setReg r (c.reg r2)).skip 1)

/-- `LD r,n` (40 R231). -/
def execLdRN (r : Reg8) (n : Byte) (s : State) : Result :=
  .next (((fetchOpN s).mapCpu fun c => c.setReg r n).skip 2)

/-- `LD r,(HL)` (40 R232). -/
def execLdRMHl (r : Reg8) (s : State) : Result :=
  let m := srcMHl s
  .next ((m.2.mapCpu fun c => c.setReg r m.1).skip 1)

/-- `LD r,(ii+d)` (40 R233). -/
def execLdRMIx (i : Idx) (r : Reg8) (d : Byte) (s : State) : Result :=
  let m := srcMIx i d s
  .next ((m.2.mapCpu fun c => c.setReg r m.1).skip 3)

/-- `LD (HL),s` (40 R234). -/
def execLdMHlS (r : Reg8) (s : State) : Result :=
  .next ((memWrite s.cpu.hl (s.cpu.reg r) (fetchOp s)).skip 1)

/-- `LD (ii+d),s` (40 R235). -/
def execLdMIxS (i : Idx) (r : Reg8) (d : Byte) (s : State) : Result :=
  .next ((memWrite (s.cpu.ea i d) (s.cpu.reg r) (fetchIdx s)).skip 3)

/-- `LD (HL),n` (40 R236). -/
def execLdMHlN (n : Byte) (s : State) : Result :=
  .next ((memWrite s.cpu.hl n (fetchOpN s)).skip 2)

/-- The bytes of `LD (ii+d),n`: the displacement, the immediate and 2 T-states (40 R237). -/
def fetchIdxN (s : State) : State := internal (s.cpu.pc + 3) 2 (fetchOp2Nn s)

/-- `LD (ii+d),n` (40 R237). -/
def execLdMIxN (i : Idx) (d : Byte) (n : Byte) (s : State) : Result :=
  .next ((memWrite (s.cpu.ea i d) n (fetchIdxN s)).skip 4)

/-- A load of A from an address (40 R238 to R240). -/
def loadA (a : Word) (t : State) : State :=
  let m := memRead a t
  m.2.setA m.1

/-- `LD A,(BC)` (40 R238). -/
def execLdAMBc (s : State) : Result :=
  .next ((loadA s.cpu.bc (fetchOp s)).skip 1)

/-- `LD A,(DE)` (40 R239). -/
def execLdAMDe (s : State) : Result :=
  .next ((loadA s.cpu.de (fetchOp s)).skip 1)

/-- `LD A,(nn)` (40 R240). -/
def execLdAMNn (nn : Word) (s : State) : Result :=
  .next ((loadA nn (fetchOpNn s)).skip 3)

/-- `LD (BC),A` (40 R241). -/
def execLdMBcA (s : State) : Result :=
  .next ((memWrite s.cpu.bc s.cpu.a (fetchOp s)).skip 1)

/-- `LD (DE),A` (40 R242). -/
def execLdMDeA (s : State) : Result :=
  .next ((memWrite s.cpu.de s.cpu.a (fetchOp s)).skip 1)

/-- `LD (nn),A` (40 R243). -/
def execLdMNnA (nn : Word) (s : State) : Result :=
  .next ((memWrite nn s.cpu.a (fetchOpNn s)).skip 3)

/-- A takes the value of I or R, with the flags; PV is IFF2, or a draw when a maskable interrupt is
accepted at the boundary after the instruction (40 R244, R245; log 11). -/
def loadAIr (v : Byte) (t : State) : State :=
  if intAtBoundary t then
    let pv := drawBool t
    pv.2.setAF v (loadIrF v t.cpu.f pv.1)
  else t.setAF v (loadIrF v t.cpu.f t.cpu.iff2)

/-- `LD A,I` (40 R244). -/
def execLdAI (s : State) : Result :=
  let t := internalIr 1 (fetchOp2 s)
  .next ((loadAIr t.cpu.i t).skip 2)

/-- `LD A,R`: R after both fetches (40 R245). -/
def execLdAR (s : State) : Result :=
  let t := internalIr 1 (fetchOp2 s)
  .next ((loadAIr t.cpu.r t).skip 2)

/-- `LD I,A` (40 R246). -/
def execLdIA (s : State) : Result :=
  .next (((internalIr 1 (fetchOp2 s)).mapCpu fun c => { c with i := c.a }).skip 2)

/-- `LD R,A` (40 R247). -/
def execLdRA (s : State) : Result :=
  .next (((internalIr 1 (fetchOp2 s)).mapCpu fun c => { c with r := c.a }).skip 2)

/-- `LD r,s` with index halves (40 R248). -/
def execLdHalves (i : Idx) (r : HalfReg) (r2 : HalfReg) (s : State) : Result :=
  undocumented s (((fetchOp2 s).mapCpu fun c => c.setHalfReg i r (c.halfReg i r2)).skip 2)

/-- `LD iH,n` and `LD iL,n` (40 R249). -/
def execLdIhlN (i : Idx) (h : Half) (n : Byte) (s : State) : Result :=
  undocumented s (((fetchOp2N s).mapCpu fun c => c.setHalf i h n).skip 3)

/-! ## Stack and 16-bit loads -/

/-- `PUSH qq` (40 R250). -/
def execPushQq (qq : StackPair) (s : State) : Result :=
  .next ((push (s.cpu.stackPair qq) (internalIr 1 (fetchOp s))).skip 1)

/-- `PUSH ii` (40 R251). -/
def execPushIi (i : Idx) (s : State) : Result :=
  .next ((push (s.cpu.idx i) (internalIr 1 (fetchOp2 s))).skip 2)

/-- `POP qq` (40 R252). -/
def execPopQq (qq : StackPair) (s : State) : Result :=
  let p := pop (fetchOp s)
  .next ((p.2.mapCpu fun c => c.setStackPair qq p.1).skip 1)

/-- `POP ii` (40 R253). -/
def execPopIi (i : Idx) (s : State) : Result :=
  let p := pop (fetchOp2 s)
  .next ((p.2.mapCpu fun c => c.setIdx i p.1).skip 2)

/-- `LD rr,nn` (40 R254). -/
def execLdRrNn (rr : RegPair) (nn : Word) (s : State) : Result :=
  .next (((fetchOpNn s).mapCpu fun c => c.setPair rr nn).skip 3)

/-- `LD ii,nn` (40 R255). -/
def execLdIiNn (i : Idx) (nn : Word) (s : State) : Result :=
  .next (((fetchOp2Nn s).mapCpu fun c => c.setIdx i nn).skip 4)

/-- `LD HL,(nn)` (40 R256). -/
def execLdHlMNn (nn : Word) (s : State) : Result :=
  let m := memReadWord nn (fetchOpNn s)
  .next ((m.2.mapCpu fun c => c.setHl m.1).skip 3)

/-- `LD rr,(nn)` (40 R257). -/
def execLdRrMNn (rr : RegPair) (nn : Word) (s : State) : Result :=
  let m := memReadWord nn (fetchOp2Nn s)
  .next ((m.2.mapCpu fun c => c.setPair rr m.1).skip 4)

/-- `LD ii,(nn)` (40 R258). -/
def execLdIiMNn (i : Idx) (nn : Word) (s : State) : Result :=
  let m := memReadWord nn (fetchOp2Nn s)
  .next ((m.2.mapCpu fun c => c.setIdx i m.1).skip 4)

/-- `LD (nn),HL` (40 R259). -/
def execLdMNnHl (nn : Word) (s : State) : Result :=
  .next ((memWriteWord nn s.cpu.hl (fetchOpNn s)).skip 3)

/-- `LD (nn),rr` (40 R260). -/
def execLdMNnRr (rr : RegPair) (nn : Word) (s : State) : Result :=
  .next ((memWriteWord nn (s.cpu.pair rr) (fetchOp2Nn s)).skip 4)

/-- `LD (nn),ii` (40 R261). -/
def execLdMNnIi (i : Idx) (nn : Word) (s : State) : Result :=
  .next ((memWriteWord nn (s.cpu.idx i) (fetchOp2Nn s)).skip 4)

/-! ## Exchanges and SP loads -/

/-- AF exchanged with AF' (40 R262). -/
def Cpu.swapAf (c : Cpu) : Cpu := { c with a := c.a2, f := c.f2, a2 := c.a, f2 := c.f }

/-- BC, DE and HL exchanged with their shadows (40 R263). -/
def Cpu.swapShadow (c : Cpu) : Cpu :=
  { c with b := c.b2, c := c.c2, d := c.d2, e := c.e2, h := c.h2, l := c.l2,
           b2 := c.b, c2 := c.c, d2 := c.d, e2 := c.e, h2 := c.h, l2 := c.l }

/-- DE exchanged with HL (40 R266). -/
def Cpu.swapDeHl (c : Cpu) : Cpu := { c with d := c.h, e := c.l, h := c.d, l := c.e }

/-- `EX AF,AF'` (40 R262). -/
def execExAfAf (s : State) : Result :=
  .next (((fetchOp s).mapCpu Cpu.swapAf).skip 1)

/-- `EXX` (40 R263). -/
def execExx (s : State) : Result :=
  .next (((fetchOp s).mapCpu Cpu.swapShadow).skip 1)

/-- `LD SP,HL` (40 R264). -/
def execLdSpHl (s : State) : Result :=
  .next (((internalIr 2 (fetchOp s)).setSp s.cpu.hl).skip 1)

/-- `LD SP,ii` (40 R265). -/
def execLdSpIi (i : Idx) (s : State) : Result :=
  .next (((internalIr 2 (fetchOp2 s)).setSp (s.cpu.idx i)).skip 2)

/-- `EX DE,HL` (40 R266). -/
def execExDeHl (s : State) : Result :=
  .next (((fetchOp s).mapCpu Cpu.swapDeHl).skip 1)

/-- The exchange of a word with the top of the stack, the high byte written first: the old top and the
state (40 R267, R268). -/
def exchangeTop (w : Word) (t : State) : Word × State :=
  let sp := t.cpu.sp
  let m := memReadWord sp t
  (m.1, internal sp 2 (memWrite sp (loByte w) (memWrite (sp + 1) (hiByte w) (internal (sp + 1) 1 m.2))))

/-- `EX (SP),HL` (40 R267). -/
def execExMSpHl (s : State) : Result :=
  let m := exchangeTop s.cpu.hl (fetchOp s)
  .next ((m.2.mapCpu fun c => c.setHl m.1).skip 1)

/-- `EX (SP),ii` (40 R268). -/
def execExMSpIi (i : Idx) (s : State) : Result :=
  let m := exchangeTop (s.cpu.idx i) (fetchOp2 s)
  .next ((m.2.mapCpu fun c => c.setIdx i m.1).skip 2)

end Sys2Proof.Machine
end

