-- ==== Sys2Proof/Machine/Rotate.lean ====
section
/-! DEFINITION. Rotates, shifts and bit operations (42_z80_rotate_bit.md R370 to R387). -/

namespace Sys2Proof.Machine

/-- An accumulator rotate (42 R370 to R373). -/
def rotA (op : Rot) (s : State) : State :=
  let o := op s.cpu.a (flagC s.cpu.f)
  ((fetchOp s).setAF o.1 (rotAF o.1 s.cpu.f o.2)).skip 1

/-- `RLCA` (42 R370). -/
def execRlca (s : State) : Result :=
  .next (rotA rlc s)

/-- `RLA` (42 R371). -/
def execRla (s : State) : Result :=
  .next (rotA rl s)

/-- `RRCA` (42 R372). -/
def execRrca (s : State) : Result :=
  .next (rotA rrc s)

/-- `RRA` (42 R373). -/
def execRra (s : State) : Result :=
  .next (rotA rr s)

/-- A CB rotate or shift of a register (42 R374). -/
def rotReg (op : Rot) (r : Reg8) (s : State) : State :=
  let o := op (s.cpu.reg r) (flagC s.cpu.f)
  (((fetchOp2 s).mapCpu fun c => c.setReg r o.1).setF (rotF o.1 o.2)).skip 2

/-- A CB rotate or shift of the memory byte at `a`, the instruction's bytes read: the result and the
state (42 R374). -/
def rotMem (op : Rot) (a : Word) (t : State) : Byte × State :=
  let m := modify a (fun v => (op v (flagC t.cpu.f)).1) t
  let o := op m.1 (flagC t.cpu.f)
  (o.1, m.2.setF (rotF o.1 o.2))

/-- Form `(HL)` (42 R374). -/
def rotMHl (op : Rot) (s : State) : State := (rotMem op s.cpu.hl (fetchOp2 s)).2.skip 2

/-- Form `(ii+d)` (42 R374). -/
def rotMIx (op : Rot) (i : Idx) (d : Byte) (s : State) : State :=
  (rotMem op (s.cpu.ea i d) (fetchXcb s)).2.skip 4

/-- Form `(ii+d)` with the copy into a register (42 R374, 30 R197). -/
def rotMIxCopy (op : Rot) (i : Idx) (d : Byte) (r : Reg8) (s : State) : State :=
  let o := rotMem op (s.cpu.ea i d) (fetchXcb s)
  (o.2.mapCpu fun c => c.setReg r o.1).skip 4

/-- `RLC r` (42 R375). -/
def execRlcR (r : Reg8) (s : State) : Result :=
  .next (rotReg rlc r s)

/-- `RLC (HL)` (42 R375). -/
def execRlcMHl (s : State) : Result :=
  .next (rotMHl rlc s)

/-- `RLC (ii+d)` (42 R375). -/
def execRlcMIx (i : Idx) (d : Byte) (s : State) : Result :=
  .next (rotMIx rlc i d s)

/-- `RLC (ii+d),r` (42 R375). -/
def execRlcMIxCopy (i : Idx) (d : Byte) (r : Reg8) (s : State) : Result :=
  undocumented s (rotMIxCopy rlc i d r s)

/-- `RRC r` (42 R376). -/
def execRrcR (r : Reg8) (s : State) : Result :=
  .next (rotReg rrc r s)

/-- `RRC (HL)` (42 R376). -/
def execRrcMHl (s : State) : Result :=
  .next (rotMHl rrc s)

/-- `RRC (ii+d)` (42 R376). -/
def execRrcMIx (i : Idx) (d : Byte) (s : State) : Result :=
  .next (rotMIx rrc i d s)

/-- `RRC (ii+d),r` (42 R376). -/
def execRrcMIxCopy (i : Idx) (d : Byte) (r : Reg8) (s : State) : Result :=
  undocumented s (rotMIxCopy rrc i d r s)

/-- `RL r` (42 R377). -/
def execRlR (r : Reg8) (s : State) : Result :=
  .next (rotReg rl r s)

/-- `RL (HL)` (42 R377). -/
def execRlMHl (s : State) : Result :=
  .next (rotMHl rl s)

/-- `RL (ii+d)` (42 R377). -/
def execRlMIx (i : Idx) (d : Byte) (s : State) : Result :=
  .next (rotMIx rl i d s)

/-- `RL (ii+d),r` (42 R377). -/
def execRlMIxCopy (i : Idx) (d : Byte) (r : Reg8) (s : State) : Result :=
  undocumented s (rotMIxCopy rl i d r s)

/-- `RR r` (42 R378). -/
def execRrR (r : Reg8) (s : State) : Result :=
  .next (rotReg rr r s)

/-- `RR (HL)` (42 R378). -/
def execRrMHl (s : State) : Result :=
  .next (rotMHl rr s)

/-- `RR (ii+d)` (42 R378). -/
def execRrMIx (i : Idx) (d : Byte) (s : State) : Result :=
  .next (rotMIx rr i d s)

/-- `RR (ii+d),r` (42 R378). -/
def execRrMIxCopy (i : Idx) (d : Byte) (r : Reg8) (s : State) : Result :=
  undocumented s (rotMIxCopy rr i d r s)

/-- `SLA r` (42 R379). -/
def execSlaR (r : Reg8) (s : State) : Result :=
  .next (rotReg sla r s)

/-- `SLA (HL)` (42 R379). -/
def execSlaMHl (s : State) : Result :=
  .next (rotMHl sla s)

/-- `SLA (ii+d)` (42 R379). -/
def execSlaMIx (i : Idx) (d : Byte) (s : State) : Result :=
  .next (rotMIx sla i d s)

/-- `SLA (ii+d),r` (42 R379). -/
def execSlaMIxCopy (i : Idx) (d : Byte) (r : Reg8) (s : State) : Result :=
  undocumented s (rotMIxCopy sla i d r s)

/-- `SRA r` (42 R380). -/
def execSraR (r : Reg8) (s : State) : Result :=
  .next (rotReg sra r s)

/-- `SRA (HL)` (42 R380). -/
def execSraMHl (s : State) : Result :=
  .next (rotMHl sra s)

/-- `SRA (ii+d)` (42 R380). -/
def execSraMIx (i : Idx) (d : Byte) (s : State) : Result :=
  .next (rotMIx sra i d s)

/-- `SRA (ii+d),r` (42 R380). -/
def execSraMIxCopy (i : Idx) (d : Byte) (r : Reg8) (s : State) : Result :=
  undocumented s (rotMIxCopy sra i d r s)

/-- `SLL r` (42 R381). -/
def execSllR (r : Reg8) (s : State) : Result :=
  undocumented s (rotReg sll r s)

/-- `SLL (HL)` (42 R381). -/
def execSllMHl (s : State) : Result :=
  undocumented s (rotMHl sll s)

/-- `SLL (ii+d)` (42 R381). -/
def execSllMIx (i : Idx) (d : Byte) (s : State) : Result :=
  undocumented s (rotMIx sll i d s)

/-- `SLL (ii+d),r` (42 R381). -/
def execSllMIxCopy (i : Idx) (d : Byte) (r : Reg8) (s : State) : Result :=
  undocumented s (rotMIxCopy sll i d r s)

/-- `SRL r` (42 R382). -/
def execSrlR (r : Reg8) (s : State) : Result :=
  .next (rotReg srl r s)

/-- `SRL (HL)` (42 R382). -/
def execSrlMHl (s : State) : Result :=
  .next (rotMHl srl s)

/-- `SRL (ii+d)` (42 R382). -/
def execSrlMIx (i : Idx) (d : Byte) (s : State) : Result :=
  .next (rotMIx srl i d s)

/-- `SRL (ii+d),r` (42 R382). -/
def execSrlMIxCopy (i : Idx) (d : Byte) (r : Reg8) (s : State) : Result :=
  undocumented s (rotMIxCopy srl i d r s)

/-! ## Digit rotates -/

/-- A digit rotate: the byte written and the new A from A and the byte read (42 R383, R384). -/
abbrev Digits := Byte → Byte → Byte × Byte

/-- RLD (42 R383). -/
def rldDigits : Digits := fun a v =>
  (v.extractLsb' 0 4 ++ a.extractLsb' 0 4, a.extractLsb' 4 4 ++ v.extractLsb' 4 4)

/-- RRD (42 R384). -/
def rrdDigits : Digits := fun a v =>
  (a.extractLsb' 0 4 ++ v.extractLsb' 4 4, a.extractLsb' 4 4 ++ v.extractLsb' 0 4)

/-- A digit rotate (42 R383, R384). -/
def rotDigits (op : Digits) (s : State) : State :=
  let hl := s.cpu.hl
  let m := memRead hl (fetchOp2 s)
  let o := op s.cpu.a m.1
  let t := memWrite hl o.1 (internal hl 4 m.2)
  (t.setAF o.2 (rotF o.2 (flagC s.cpu.f))).skip 2

/-- `RLD` (42 R383). -/
def execRld (s : State) : Result :=
  .next (rotDigits rldDigits s)

/-- `RRD` (42 R384). -/
def execRrd (s : State) : Result :=
  .next (rotDigits rrdDigits s)

/-! ## Bit test, set and reset -/

/-- BIT on a memory byte, the byte read: Y and X are drawn (42 R385). -/
def bitMem (bit : BitVec 3) (v : Byte) (t : State) : State :=
  let y := drawBool t
  let x := drawBool y.2
  x.2.setF (bitF bit v t.cpu.f y.1 x.1)

/-- BIT on `(ii+d)` (42 R385). -/
def bitMIx (bit : BitVec 3) (i : Idx) (d : Byte) (s : State) : State :=
  let m := probe (s.cpu.ea i d) (fetchXcb s)
  (bitMem bit m.1 m.2).skip 4

/-- `BIT b,r` (42 R385). -/
def execBitBR (bit : BitVec 3) (r : Reg8) (s : State) : Result :=
  let v := s.cpu.reg r
  .next (((fetchOp2 s).setF (bitF bit v s.cpu.f (v.getLsbD 5) (v.getLsbD 3))).skip 2)

/-- `BIT b,(HL)` (42 R385). -/
def execBitBMHl (bit : BitVec 3) (s : State) : Result :=
  let m := probe s.cpu.hl (fetchOp2 s)
  .next ((bitMem bit m.1 m.2).skip 2)

/-- `BIT b,(ii+d)` (42 R385). -/
def execBitBMIx (i : Idx) (bit : BitVec 3) (d : Byte) (s : State) : Result :=
  .next (bitMIx bit i d s)

/-- `BIT b,(ii+d) (duplicate)`: no register is written (42 R385). -/
def execBitBMIxDup (i : Idx) (bit : BitVec 3) (d : Byte) (_r : Reg8) (s : State) : Result :=
  undocumented s (bitMIx bit i d s)

/-- SET and RES on a register (42 R386, R387). -/
def changeReg (f : Byte → Byte) (r : Reg8) (s : State) : State :=
  ((fetchOp2 s).mapCpu fun c => c.setReg r (f (c.reg r))).skip 2

/-- SET and RES on `(HL)` (42 R386, R387). -/
def changeMHl (f : Byte → Byte) (s : State) : State := (modify s.cpu.hl f (fetchOp2 s)).2.skip 2

/-- SET and RES on `(ii+d)` (42 R386, R387). -/
def changeMIx (f : Byte → Byte) (i : Idx) (d : Byte) (s : State) : State :=
  (modify (s.cpu.ea i d) f (fetchXcb s)).2.skip 4

/-- SET and RES on `(ii+d)` with the copy into a register (42 R374, R386, R387). -/
def changeMIxCopy (f : Byte → Byte) (i : Idx) (d : Byte) (r : Reg8) (s : State) : State :=
  let m := modify (s.cpu.ea i d) f (fetchXcb s)
  (m.2.mapCpu fun c => c.setReg r (f m.1)).skip 4

/-- `SET b,r` (42 R386). -/
def execSetBR (bit : BitVec 3) (r : Reg8) (s : State) : Result :=
  .next (changeReg (setBit bit) r s)

/-- `SET b,(HL)` (42 R386). -/
def execSetBMHl (bit : BitVec 3) (s : State) : Result :=
  .next (changeMHl (setBit bit) s)

/-- `SET b,(ii+d)` (42 R386). -/
def execSetBMIx (i : Idx) (bit : BitVec 3) (d : Byte) (s : State) : Result :=
  .next (changeMIx (setBit bit) i d s)

/-- `SET b,(ii+d),r` (42 R386). -/
def execSetBMIxCopy (i : Idx) (bit : BitVec 3) (d : Byte) (r : Reg8) (s : State) : Result :=
  undocumented s (changeMIxCopy (setBit bit) i d r s)

/-- `RES b,r` (42 R387). -/
def execResBR (bit : BitVec 3) (r : Reg8) (s : State) : Result :=
  .next (changeReg (resBit bit) r s)

/-- `RES b,(HL)` (42 R387). -/
def execResBMHl (bit : BitVec 3) (s : State) : Result :=
  .next (changeMHl (resBit bit) s)

/-- `RES b,(ii+d)` (42 R387). -/
def execResBMIx (i : Idx) (bit : BitVec 3) (d : Byte) (s : State) : Result :=
  .next (changeMIx (resBit bit) i d s)

/-- `RES b,(ii+d),r` (42 R387). -/
def execResBMIxCopy (i : Idx) (bit : BitVec 3) (d : Byte) (r : Reg8) (s : State) : Result :=
  undocumented s (changeMIxCopy (resBit bit) i d r s)

end Sys2Proof.Machine
end

