-- ==== Sys2Proof/Machine/WdCommand.lean ====
section
/-! DEFINITION. The WD1793 commands as instructions (30 R205; 47_wd1793.md R631, R640 to R651): a write of the
command byte to the command register (log 12). -/

namespace Sys2Proof.Machine

/-- The command byte `v` written to the command register: the controller caught up, then
`CommandWrite(v)`, ignored while held in reset (47 R602, R631). -/
def wdCommand (v : Byte) (s : State) : State :=
  { s with disk := s.disk.portWrite s.cfg s.clock.absTime 0x1F v }

/-- A Type I command byte: high bits, h, V, r1 r0 (30 R205). -/
def typeIByte (hi : BitVec 4) (h v : Bool) (r : BitVec 2) : Byte :=
  hi ++ BitVec.ofBool h ++ BitVec.ofBool v ++ r

/-- RESTORE (47 R640). -/
def execWdRestore (h : Bool) (v : Bool) (r : BitVec 2) (s : State) : Result :=
  .next (wdCommand (typeIByte 0 h v r) s)

/-- SEEK (47 R642). -/
def execWdSeek (h : Bool) (v : Bool) (r : BitVec 2) (s : State) : Result :=
  .next (wdCommand (typeIByte 1 h v r) s)

/-- STEP (47 R643). -/
def execWdStep (u : Bool) (h : Bool) (v : Bool) (r : BitVec 2) (s : State) : Result :=
  .next (wdCommand (typeIByte (1#3 ++ BitVec.ofBool u) h v r) s)

/-- STEP-IN (47 R644). -/
def execWdStepIn (u : Bool) (h : Bool) (v : Bool) (r : BitVec 2) (s : State) : Result :=
  .next (wdCommand (typeIByte (2#3 ++ BitVec.ofBool u) h v r) s)

/-- STEP-OUT (47 R645). -/
def execWdStepOut (u : Bool) (h : Bool) (v : Bool) (r : BitVec 2) (s : State) : Result :=
  .next (wdCommand (typeIByte (3#3 ++ BitVec.ofBool u) h v r) s)

/-- READ SECTOR (47 R646). -/
def execWdReadSector (m : Bool) (side : Bool) (e : Bool) (c : Bool) (s : State) : Result :=
  .next (wdCommand (byteOfBits true false false m side e c false) s)

/-- WRITE SECTOR (47 R647). -/
def execWdWriteSector (m : Bool) (side : Bool) (e : Bool) (c : Bool) (a0 : Bool) (s : State) : Result :=
  .next (wdCommand (byteOfBits true false true m side e c a0) s)

/-- READ ADDRESS (47 R648). -/
def execWdReadAddress (e : Bool) (s : State) : Result :=
  .next (wdCommand (byteOfBits true true false false false e false false) s)

/-- READ TRACK (47 R649). -/
def execWdReadTrack (e : Bool) (s : State) : Result :=
  .next (wdCommand (byteOfBits true true true false false e false false) s)

/-- WRITE TRACK (47 R650). -/
def execWdWriteTrack (e : Bool) (s : State) : Result :=
  .next (wdCommand (byteOfBits true true true true false e false false) s)

/-- FORCE INTERRUPT (47 R651). -/
def execWdForceInterrupt (cond : BitVec 4) (s : State) : Result :=
  .next (wdCommand (13#4 ++ cond) s)

end Sys2Proof.Machine
end

