-- ==== Sys2Proof/Machine/Dispatch.lean ====
section
/-! DEFINITION. The dispatch of an instruction to its meaning: one arm per constructor. -/

namespace Sys2Proof.Machine

def exec (i : Instr) (s : State) : Host.Outcome State Fault Refusal :=
  match i with
  | .nop => Sys2Proof.Machine.execNop s
  | .ldRrNn rr nn => Sys2Proof.Machine.execLdRrNn rr nn s
  | .addHlRr rr => Sys2Proof.Machine.execAddHlRr rr s
  | .ldMBcA => Sys2Proof.Machine.execLdMBcA s
  | .ldMDeA => Sys2Proof.Machine.execLdMDeA s
  | .ldMNnHl nn => Sys2Proof.Machine.execLdMNnHl nn s
  | .ldMNnA nn => Sys2Proof.Machine.execLdMNnA nn s
  | .ldAMBc => Sys2Proof.Machine.execLdAMBc s
  | .ldAMDe => Sys2Proof.Machine.execLdAMDe s
  | .ldHlMNn nn => Sys2Proof.Machine.execLdHlMNn nn s
  | .ldAMNn nn => Sys2Proof.Machine.execLdAMNn nn s
  | .incRr rr => Sys2Proof.Machine.execIncRr rr s
  | .decRr rr => Sys2Proof.Machine.execDecRr rr s
  | .incR r => Sys2Proof.Machine.execIncR r s
  | .incMHl => Sys2Proof.Machine.execIncMHl s
  | .decR r => Sys2Proof.Machine.execDecR r s
  | .decMHl => Sys2Proof.Machine.execDecMHl s
  | .ldRN r n => Sys2Proof.Machine.execLdRN r n s
  | .ldMHlN n => Sys2Proof.Machine.execLdMHlN n s
  | .rlca => Sys2Proof.Machine.execRlca s
  | .rrca => Sys2Proof.Machine.execRrca s
  | .rla => Sys2Proof.Machine.execRla s
  | .rra => Sys2Proof.Machine.execRra s
  | .daa => Sys2Proof.Machine.execDaa s
  | .cpl => Sys2Proof.Machine.execCpl s
  | .scf => Sys2Proof.Machine.execScf s
  | .ccf => Sys2Proof.Machine.execCcf s
  | .exAfAf => Sys2Proof.Machine.execExAfAf s
  | .djnz e => Sys2Proof.Machine.execDjnz e s
  | .jr e => Sys2Proof.Machine.execJr e s
  | .jrC cc e => Sys2Proof.Machine.execJrC cc e s
  | .ldRS r r2 => Sys2Proof.Machine.execLdRS r r2 s
  | .ldRMHl r => Sys2Proof.Machine.execLdRMHl r s
  | .ldMHlS r => Sys2Proof.Machine.execLdMHlS r s
  | .halt => Sys2Proof.Machine.execHalt s
  | .addAR r => Sys2Proof.Machine.execAddAR r s
  | .addAMHl => Sys2Proof.Machine.execAddAMHl s
  | .addAN n => Sys2Proof.Machine.execAddAN n s
  | .adcAR r => Sys2Proof.Machine.execAdcAR r s
  | .adcAMHl => Sys2Proof.Machine.execAdcAMHl s
  | .adcAN n => Sys2Proof.Machine.execAdcAN n s
  | .subAR r => Sys2Proof.Machine.execSubAR r s
  | .subAMHl => Sys2Proof.Machine.execSubAMHl s
  | .subAN n => Sys2Proof.Machine.execSubAN n s
  | .sbcAR r => Sys2Proof.Machine.execSbcAR r s
  | .sbcAMHl => Sys2Proof.Machine.execSbcAMHl s
  | .sbcAN n => Sys2Proof.Machine.execSbcAN n s
  | .andAR r => Sys2Proof.Machine.execAndAR r s
  | .andAMHl => Sys2Proof.Machine.execAndAMHl s
  | .andAN n => Sys2Proof.Machine.execAndAN n s
  | .xorAR r => Sys2Proof.Machine.execXorAR r s
  | .xorAMHl => Sys2Proof.Machine.execXorAMHl s
  | .xorAN n => Sys2Proof.Machine.execXorAN n s
  | .orAR r => Sys2Proof.Machine.execOrAR r s
  | .orAMHl => Sys2Proof.Machine.execOrAMHl s
  | .orAN n => Sys2Proof.Machine.execOrAN n s
  | .cpAR r => Sys2Proof.Machine.execCpAR r s
  | .cpAMHl => Sys2Proof.Machine.execCpAMHl s
  | .cpAN n => Sys2Proof.Machine.execCpAN n s
  | .retC cc => Sys2Proof.Machine.execRetC cc s
  | .popQq qq => Sys2Proof.Machine.execPopQq qq s
  | .ret => Sys2Proof.Machine.execRet s
  | .exx => Sys2Proof.Machine.execExx s
  | .jpHl => Sys2Proof.Machine.execJpHl s
  | .ldSpHl => Sys2Proof.Machine.execLdSpHl s
  | .jpCNn cc nn => Sys2Proof.Machine.execJpCNn cc nn s
  | .jpNn nn => Sys2Proof.Machine.execJpNn nn s
  | .outNA n => Sys2Proof.Machine.execOutNA n s
  | .inAN n => Sys2Proof.Machine.execInAN n s
  | .exMSpHl => Sys2Proof.Machine.execExMSpHl s
  | .exDeHl => Sys2Proof.Machine.execExDeHl s
  | .di => Sys2Proof.Machine.execDi s
  | .ei => Sys2Proof.Machine.execEi s
  | .callCNn cc nn => Sys2Proof.Machine.execCallCNn cc nn s
  | .pushQq qq => Sys2Proof.Machine.execPushQq qq s
  | .callNn nn => Sys2Proof.Machine.execCallNn nn s
  | .rst t => Sys2Proof.Machine.execRst t s
  | .rlcR r => Sys2Proof.Machine.execRlcR r s
  | .rlcMHl => Sys2Proof.Machine.execRlcMHl s
  | .rrcR r => Sys2Proof.Machine.execRrcR r s
  | .rrcMHl => Sys2Proof.Machine.execRrcMHl s
  | .rlR r => Sys2Proof.Machine.execRlR r s
  | .rlMHl => Sys2Proof.Machine.execRlMHl s
  | .rrR r => Sys2Proof.Machine.execRrR r s
  | .rrMHl => Sys2Proof.Machine.execRrMHl s
  | .slaR r => Sys2Proof.Machine.execSlaR r s
  | .slaMHl => Sys2Proof.Machine.execSlaMHl s
  | .sraR r => Sys2Proof.Machine.execSraR r s
  | .sraMHl => Sys2Proof.Machine.execSraMHl s
  | .sllR r => Sys2Proof.Machine.execSllR r s
  | .sllMHl => Sys2Proof.Machine.execSllMHl s
  | .srlR r => Sys2Proof.Machine.execSrlR r s
  | .srlMHl => Sys2Proof.Machine.execSrlMHl s
  | .bitBR bit r => Sys2Proof.Machine.execBitBR bit r s
  | .bitBMHl bit => Sys2Proof.Machine.execBitBMHl bit s
  | .resBR bit r => Sys2Proof.Machine.execResBR bit r s
  | .resBMHl bit => Sys2Proof.Machine.execResBMHl bit s
  | .setBR bit r => Sys2Proof.Machine.execSetBR bit r s
  | .setBMHl bit => Sys2Proof.Machine.execSetBMHl bit s
  | .inRC r => Sys2Proof.Machine.execInRC r s
  | .inFC => Sys2Proof.Machine.execInFC s
  | .outCR r => Sys2Proof.Machine.execOutCR r s
  | .outC0 => Sys2Proof.Machine.execOutC0 s
  | .sbcHlRr rr => Sys2Proof.Machine.execSbcHlRr rr s
  | .adcHlRr rr => Sys2Proof.Machine.execAdcHlRr rr s
  | .ldMNnRr rr nn => Sys2Proof.Machine.execLdMNnRr rr nn s
  | .ldRrMNn rr nn => Sys2Proof.Machine.execLdRrMNn rr nn s
  | .neg => Sys2Proof.Machine.execNeg s
  | .negDup y => Sys2Proof.Machine.execNegDup y s
  | .retn => Sys2Proof.Machine.execRetn s
  | .reti => Sys2Proof.Machine.execReti s
  | .retnDup y => Sys2Proof.Machine.execRetnDup y s
  | .im0 => Sys2Proof.Machine.execIm0 s
  | .im1 => Sys2Proof.Machine.execIm1 s
  | .im2 => Sys2Proof.Machine.execIm2 s
  | .imDup y => Sys2Proof.Machine.execImDup y s
  | .ldIA => Sys2Proof.Machine.execLdIA s
  | .ldRA => Sys2Proof.Machine.execLdRA s
  | .ldAI => Sys2Proof.Machine.execLdAI s
  | .ldAR => Sys2Proof.Machine.execLdAR s
  | .rrd => Sys2Proof.Machine.execRrd s
  | .rld => Sys2Proof.Machine.execRld s
  | .nopEd7 y => Sys2Proof.Machine.execNopEd7 y s
  | .ldi => Sys2Proof.Machine.execLdi s
  | .ldd => Sys2Proof.Machine.execLdd s
  | .ldir => Sys2Proof.Machine.execLdir s
  | .lddr => Sys2Proof.Machine.execLddr s
  | .cpi => Sys2Proof.Machine.execCpi s
  | .cpd => Sys2Proof.Machine.execCpd s
  | .cpir => Sys2Proof.Machine.execCpir s
  | .cpdr => Sys2Proof.Machine.execCpdr s
  | .ini => Sys2Proof.Machine.execIni s
  | .ind => Sys2Proof.Machine.execInd s
  | .inir => Sys2Proof.Machine.execInir s
  | .indr => Sys2Proof.Machine.execIndr s
  | .outi => Sys2Proof.Machine.execOuti s
  | .outd => Sys2Proof.Machine.execOutd s
  | .otir => Sys2Proof.Machine.execOtir s
  | .otdr => Sys2Proof.Machine.execOtdr s
  | .noni op => Sys2Proof.Machine.execNoni op s
  | .ldIiNn x nn => Sys2Proof.Machine.execLdIiNn x nn s
  | .addIiRr x pp => Sys2Proof.Machine.execAddIiRr x pp s
  | .ldMNnIi x nn => Sys2Proof.Machine.execLdMNnIi x nn s
  | .ldIiMNn x nn => Sys2Proof.Machine.execLdIiMNn x nn s
  | .incIi x => Sys2Proof.Machine.execIncIi x s
  | .decIi x => Sys2Proof.Machine.execDecIi x s
  | .incIhl x h => Sys2Proof.Machine.execIncIhl x h s
  | .decIhl x h => Sys2Proof.Machine.execDecIhl x h s
  | .ldIhlN x h n => Sys2Proof.Machine.execLdIhlN x h n s
  | .incMIx x d => Sys2Proof.Machine.execIncMIx x d s
  | .decMIx x d => Sys2Proof.Machine.execDecMIx x d s
  | .ldMIxN x d n => Sys2Proof.Machine.execLdMIxN x d n s
  | .ldRMIx x r d => Sys2Proof.Machine.execLdRMIx x r d s
  | .ldMIxS x r d => Sys2Proof.Machine.execLdMIxS x r d s
  | .ldHalves x r r2 => Sys2Proof.Machine.execLdHalves x r r2 s
  | .addAIhl x h => Sys2Proof.Machine.execAddAIhl x h s
  | .addAMIx x d => Sys2Proof.Machine.execAddAMIx x d s
  | .adcAIhl x h => Sys2Proof.Machine.execAdcAIhl x h s
  | .adcAMIx x d => Sys2Proof.Machine.execAdcAMIx x d s
  | .subAIhl x h => Sys2Proof.Machine.execSubAIhl x h s
  | .subAMIx x d => Sys2Proof.Machine.execSubAMIx x d s
  | .sbcAIhl x h => Sys2Proof.Machine.execSbcAIhl x h s
  | .sbcAMIx x d => Sys2Proof.Machine.execSbcAMIx x d s
  | .andAIhl x h => Sys2Proof.Machine.execAndAIhl x h s
  | .andAMIx x d => Sys2Proof.Machine.execAndAMIx x d s
  | .xorAIhl x h => Sys2Proof.Machine.execXorAIhl x h s
  | .xorAMIx x d => Sys2Proof.Machine.execXorAMIx x d s
  | .orAIhl x h => Sys2Proof.Machine.execOrAIhl x h s
  | .orAMIx x d => Sys2Proof.Machine.execOrAMIx x d s
  | .cpAIhl x h => Sys2Proof.Machine.execCpAIhl x h s
  | .cpAMIx x d => Sys2Proof.Machine.execCpAMIx x d s
  | .popIi x => Sys2Proof.Machine.execPopIi x s
  | .exMSpIi x => Sys2Proof.Machine.execExMSpIi x s
  | .pushIi x => Sys2Proof.Machine.execPushIi x s
  | .jpIi x => Sys2Proof.Machine.execJpIi x s
  | .ldSpIi x => Sys2Proof.Machine.execLdSpIi x s
  | .ignoredPrefix x => Sys2Proof.Machine.execIgnoredPrefix x s
  | .rlcMIx x d => Sys2Proof.Machine.execRlcMIx x d s
  | .rlcMIxCopy x d r => Sys2Proof.Machine.execRlcMIxCopy x d r s
  | .rrcMIx x d => Sys2Proof.Machine.execRrcMIx x d s
  | .rrcMIxCopy x d r => Sys2Proof.Machine.execRrcMIxCopy x d r s
  | .rlMIx x d => Sys2Proof.Machine.execRlMIx x d s
  | .rlMIxCopy x d r => Sys2Proof.Machine.execRlMIxCopy x d r s
  | .rrMIx x d => Sys2Proof.Machine.execRrMIx x d s
  | .rrMIxCopy x d r => Sys2Proof.Machine.execRrMIxCopy x d r s
  | .slaMIx x d => Sys2Proof.Machine.execSlaMIx x d s
  | .slaMIxCopy x d r => Sys2Proof.Machine.execSlaMIxCopy x d r s
  | .sraMIx x d => Sys2Proof.Machine.execSraMIx x d s
  | .sraMIxCopy x d r => Sys2Proof.Machine.execSraMIxCopy x d r s
  | .sllMIx x d => Sys2Proof.Machine.execSllMIx x d s
  | .sllMIxCopy x d r => Sys2Proof.Machine.execSllMIxCopy x d r s
  | .srlMIx x d => Sys2Proof.Machine.execSrlMIx x d s
  | .srlMIxCopy x d r => Sys2Proof.Machine.execSrlMIxCopy x d r s
  | .bitBMIx x bit d => Sys2Proof.Machine.execBitBMIx x bit d s
  | .bitBMIxDup x bit d r => Sys2Proof.Machine.execBitBMIxDup x bit d r s
  | .resBMIx x bit d => Sys2Proof.Machine.execResBMIx x bit d s
  | .resBMIxCopy x bit d r => Sys2Proof.Machine.execResBMIxCopy x bit d r s
  | .setBMIx x bit d => Sys2Proof.Machine.execSetBMIx x bit d s
  | .setBMIxCopy x bit d r => Sys2Proof.Machine.execSetBMIxCopy x bit d r s
  | .wdRestore h v r => Sys2Proof.Machine.execWdRestore h v r s
  | .wdSeek h v r => Sys2Proof.Machine.execWdSeek h v r s
  | .wdStep u h v r => Sys2Proof.Machine.execWdStep u h v r s
  | .wdStepIn u h v r => Sys2Proof.Machine.execWdStepIn u h v r s
  | .wdStepOut u h v r => Sys2Proof.Machine.execWdStepOut u h v r s
  | .wdReadSector m side e c => Sys2Proof.Machine.execWdReadSector m side e c s
  | .wdWriteSector m side e c a0 => Sys2Proof.Machine.execWdWriteSector m side e c a0 s
  | .wdReadAddress e => Sys2Proof.Machine.execWdReadAddress e s
  | .wdReadTrack e => Sys2Proof.Machine.execWdReadTrack e s
  | .wdWriteTrack e => Sys2Proof.Machine.execWdWriteTrack e s
  | .wdForceInterrupt cond => Sys2Proof.Machine.execWdForceInterrupt cond s

end Sys2Proof.Machine
end

