-- ==== Sys2Proof/WellFormed.lean ====
section
/-! DEFINITION. Which terms of `Instr` stand for an encoding: the constraints the opcode table puts on
the rows whose field is narrower than its operand type (30 R186, R191, R196, R200). -/

namespace Sys2Proof

/-- The undefined opcode bytes after ED, without ED 77 and ED 7F, which are a row of their own
(30 R191, R200). -/
def isUndefinedEd (op : Byte) : Bool :=
  let x := op.toNat / 64
  let y := op.toNat / 8 % 8
  let z := op.toNat % 8
  x == 0 || x == 3 || (x == 2 && !(z ≤ 3 && 4 ≤ y))

/-- A half-register operand names iH or iL. -/
def HalfReg.isHalf : HalfReg → Bool
  | .ih | .il => true
  | .b | .c | .d | .e | .a => false

/-- Well-formed terms: those that some encoding stands for. -/
def Instr.wf : Instr → Bool
  -- y = 000 is `NEG` itself (41 R318)
  | .negDup y => y != 0
  -- y = 000 is `RETN` itself and y = 001 is `RETI` (30 R191)
  | .retnDup y => y != 0 && y != 1
  -- y = 000, 010 and 011 are the documented `IM 0`, `IM 1`, `IM 2` (30 R186)
  | .imDup y => y != 0 && y != 2 && y != 3
  | .noni op => isUndefinedEd op
  -- at least one operand is an index half (40 R248)
  | .ldHalves _ r r2 => r.isHalf || r2.isHalf
  | .nop | .ldRrNn _ _ | .addHlRr _ | .ldMBcA | .ldMDeA | .ldMNnHl _ | .ldMNnA _ | .ldAMBc
  | .ldAMDe | .ldHlMNn _ | .ldAMNn _ | .incRr _ | .decRr _ | .incR _ | .incMHl | .decR _ | .decMHl
  | .ldRN _ _ | .ldMHlN _ | .rlca | .rrca | .rla | .rra | .daa | .cpl | .scf | .ccf | .exAfAf
  | .djnz _ | .jr _ | .jrC _ _ | .ldRS _ _ | .ldRMHl _ | .ldMHlS _ | .halt | .addAR _ | .addAMHl
  | .addAN _ | .adcAR _ | .adcAMHl | .adcAN _ | .subAR _ | .subAMHl | .subAN _ | .sbcAR _
  | .sbcAMHl | .sbcAN _ | .andAR _ | .andAMHl | .andAN _ | .xorAR _ | .xorAMHl | .xorAN _
  | .orAR _ | .orAMHl | .orAN _ | .cpAR _ | .cpAMHl | .cpAN _ | .retC _ | .popQq _ | .ret | .exx
  | .jpHl | .ldSpHl | .jpCNn _ _ | .jpNn _ | .outNA _ | .inAN _ | .exMSpHl | .exDeHl | .di | .ei
  | .callCNn _ _ | .pushQq _ | .callNn _ | .rst _ | .rlcR _ | .rlcMHl | .rrcR _ | .rrcMHl | .rlR _
  | .rlMHl | .rrR _ | .rrMHl | .slaR _ | .slaMHl | .sraR _ | .sraMHl | .sllR _ | .sllMHl | .srlR _
  | .srlMHl | .bitBR _ _ | .bitBMHl _ | .resBR _ _ | .resBMHl _ | .setBR _ _ | .setBMHl _
  | .inRC _ | .inFC | .outCR _ | .outC0 | .sbcHlRr _ | .adcHlRr _ | .ldMNnRr _ _ | .ldRrMNn _ _
  | .neg | .retn | .reti | .im0 | .im1 | .im2 | .ldIA | .ldRA | .ldAI | .ldAR | .rrd | .rld
  | .nopEd7 _ | .ldi | .ldd | .ldir | .lddr | .cpi | .cpd | .cpir | .cpdr | .ini | .ind | .inir
  | .indr | .outi | .outd | .otir | .otdr | .ldIiNn _ _ | .addIiRr _ _ | .ldMNnIi _ _
  | .ldIiMNn _ _ | .incIi _ | .decIi _ | .incIhl _ _ | .decIhl _ _ | .ldIhlN _ _ _ | .incMIx _ _
  | .decMIx _ _ | .ldMIxN _ _ _ | .ldRMIx _ _ _ | .ldMIxS _ _ _ | .addAIhl _ _ | .addAMIx _ _
  | .adcAIhl _ _ | .adcAMIx _ _ | .subAIhl _ _ | .subAMIx _ _ | .sbcAIhl _ _ | .sbcAMIx _ _
  | .andAIhl _ _ | .andAMIx _ _ | .xorAIhl _ _ | .xorAMIx _ _ | .orAIhl _ _ | .orAMIx _ _
  | .cpAIhl _ _ | .cpAMIx _ _ | .popIi _ | .exMSpIi _ | .pushIi _ | .jpIi _ | .ldSpIi _
  | .ignoredPrefix _ | .rlcMIx _ _ | .rlcMIxCopy _ _ _ | .rrcMIx _ _ | .rrcMIxCopy _ _ _
  | .rlMIx _ _ | .rlMIxCopy _ _ _ | .rrMIx _ _ | .rrMIxCopy _ _ _ | .slaMIx _ _
  | .slaMIxCopy _ _ _ | .sraMIx _ _ | .sraMIxCopy _ _ _ | .sllMIx _ _ | .sllMIxCopy _ _ _
  | .srlMIx _ _ | .srlMIxCopy _ _ _ | .bitBMIx _ _ _ | .bitBMIxDup _ _ _ _ | .resBMIx _ _ _
  | .resBMIxCopy _ _ _ _ | .setBMIx _ _ _ | .setBMIxCopy _ _ _ _ | .wdRestore _ _ _
  | .wdSeek _ _ _ | .wdStep _ _ _ _ | .wdStepIn _ _ _ _ | .wdStepOut _ _ _ _
  | .wdReadSector _ _ _ _ | .wdWriteSector _ _ _ _ _ | .wdReadAddress _ | .wdReadTrack _
  | .wdWriteTrack _ | .wdForceInterrupt _ => true

end Sys2Proof
end

