-- ==== Sys2Proof/Decode.lean ====
section
/-! DEFINITION. The decoder of 30_encoding.md: total on any bytes, rejecting by name; then the encoder,
written from the same tables; then the WD1793 command byte (30 R205) and the opcode table's words. -/

namespace Sys2Proof

/-! ## Opcode byte fields (30 R181) -/

/-- `x = op[7:6]`. -/
def opX (op : Byte) : Nat := op.toNat / 64
/-- `y = op[5:3]`. -/
def opY (op : Byte) : Nat := op.toNat / 8 % 8
/-- `z = op[2:0]`. -/
def opZ (op : Byte) : Nat := op.toNat % 8
/-- `p = op[5:4]`. -/
def opP (op : Byte) : Nat := op.toNat / 16 % 4
/-- `q = op[3]`. -/
def opQ (op : Byte) : Nat := op.toNat / 8 % 2

/-- `nn` from its two bytes, low byte first (30 R187). -/
def immWord (lo hi : Byte) : Word := hi ++ lo

/-! ## Operand fields -/

/-- The field `r[k]`; code 110 is `(HL)` and answers none (30 R182). -/
def Reg8.ofCode : Nat → Option Reg8
  | 0 => some .b | 1 => some .c | 2 => some .d | 3 => some .e
  | 4 => some .h | 5 => some .l | 7 => some .a | _ => none

/-- The field `rp[p]` (30 R183). -/
def RegPair.ofCode : Nat → RegPair
  | 0 => .bc | 1 => .de | 2 => .hl | _ => .sp

/-- The field `rp2[p]` (30 R183). -/
def StackPair.ofCode : Nat → StackPair
  | 0 => .bc | 1 => .de | 2 => .hl | _ => .af

/-- The pair field of `ADD ii,pp` (41 R324). -/
def IdxPair.ofCode : Nat → IdxPair
  | 0 => .bc | 1 => .de | 2 => .ii | _ => .sp

/-- The field `cc[k]` (30 R190). -/
def Cond.ofCode : Nat → Cond
  | 0 => .nz | 1 => .z | 2 => .nc | 3 => .c | 4 => .po | 5 => .pe | 6 => .p | _ => .m

/-- The condition of `JR cc`, `k = y - 4` (30 R190). -/
def JrCond.ofCode : Nat → JrCond
  | 0 => .nz | 1 => .z | 2 => .nc | _ => .c

/-- The register field under DD or FD, H and L substituted; code 110 answers none (30 R196). -/
def HalfReg.ofCode : Nat → Option HalfReg
  | 0 => some .b | 1 => some .c | 2 => some .d | 3 => some .e
  | 4 => some .ih | 5 => some .il | 7 => some .a | _ => none

/-- `h = 0` is iH, `h = 1` is iL. -/
def Half.ofBit : Nat → Half
  | 0 => .ih | _ => .il

/-! ## Decoding -/

/-- Why bytes are rejected: an instruction's bytes run past the end of the list. No byte sequence of
four bytes or more is rejected (30 R199). -/
inductive DecodeError where
  | truncated
  deriving DecidableEq, Repr

/-- An instruction and the bytes after it. -/
abbrev Decoded := Except DecodeError (Instr × List Byte)

/-- An instruction with no further byte. -/
def take0 (i : Instr) (rest : List Byte) : Decoded := .ok (i, rest)

/-- An instruction with one further byte (n, e or d). -/
def take1 (f : Byte → Instr) (rest : List Byte) : Decoded :=
  match rest with
  | n :: t => .ok (f n, t)
  | [] => .error .truncated

/-- An instruction with a further word nn, low byte first. -/
def takeWord (f : Word → Instr) (rest : List Byte) : Decoded :=
  match rest with
  | lo :: hi :: t => .ok (f (immWord lo hi), t)
  | _ => .error .truncated

/-- An instruction with a displacement byte and then an immediate byte. -/
def take2 (f : Byte → Byte → Instr) (rest : List Byte) : Decoded :=
  match rest with
  | d :: n :: t => .ok (f d n, t)
  | _ => .error .truncated

/-- The eight ALU operations on a register, in the order of `alu[y]` (30 R184). -/
def aluR (y : Nat) (r : Reg8) : Instr :=
  match y with
  | 0 => .addAR r | 1 => .adcAR r | 2 => .subAR r | 3 => .sbcAR r
  | 4 => .andAR r | 5 => .xorAR r | 6 => .orAR r | _ => .cpAR r

/-- The ALU operations on `(HL)` (30 R184). -/
def aluMHl (y : Nat) : Instr :=
  match y with
  | 0 => .addAMHl | 1 => .adcAMHl | 2 => .subAMHl | 3 => .sbcAMHl
  | 4 => .andAMHl | 5 => .xorAMHl | 6 => .orAMHl | _ => .cpAMHl

/-- The ALU operations on an immediate (30 R184). -/
def aluN (y : Nat) (n : Byte) : Instr :=
  match y with
  | 0 => .addAN n | 1 => .adcAN n | 2 => .subAN n | 3 => .sbcAN n
  | 4 => .andAN n | 5 => .xorAN n | 6 => .orAN n | _ => .cpAN n

/-- The ALU operations on an index half (30 R196). -/
def aluIhl (y : Nat) (i : Idx) (h : Half) : Instr :=
  match y with
  | 0 => .addAIhl i h | 1 => .adcAIhl i h | 2 => .subAIhl i h | 3 => .sbcAIhl i h
  | 4 => .andAIhl i h | 5 => .xorAIhl i h | 6 => .orAIhl i h | _ => .cpAIhl i h

/-- The ALU operations on `(ii+d)` (30 R193). -/
def aluMIx (y : Nat) (i : Idx) (d : Byte) : Instr :=
  match y with
  | 0 => .addAMIx i d | 1 => .adcAMIx i d | 2 => .subAMIx i d | 3 => .sbcAMIx i d
  | 4 => .andAMIx i d | 5 => .xorAMIx i d | 6 => .orAMIx i d | _ => .cpAMIx i d

/-- The rotates and shifts on a register, in the order of `rot[y]` (30 R185). -/
def rotR (y : Nat) (r : Reg8) : Instr :=
  match y with
  | 0 => .rlcR r | 1 => .rrcR r | 2 => .rlR r | 3 => .rrR r
  | 4 => .slaR r | 5 => .sraR r | 6 => .sllR r | _ => .srlR r

/-- The rotates and shifts on `(HL)` (30 R185). -/
def rotMHl (y : Nat) : Instr :=
  match y with
  | 0 => .rlcMHl | 1 => .rrcMHl | 2 => .rlMHl | 3 => .rrMHl
  | 4 => .slaMHl | 5 => .sraMHl | 6 => .sllMHl | _ => .srlMHl

/-- The rotates and shifts on `(ii+d)` (30 R197). -/
def rotMIx (y : Nat) (i : Idx) (d : Byte) : Instr :=
  match y with
  | 0 => .rlcMIx i d | 1 => .rrcMIx i d | 2 => .rlMIx i d | 3 => .rrMIx i d
  | 4 => .slaMIx i d | 5 => .sraMIx i d | 6 => .sllMIx i d | _ => .srlMIx i d

/-- The rotates and shifts on `(ii+d)` with the copy into a register (30 R197). -/
def rotMIxCopy (y : Nat) (i : Idx) (d : Byte) (r : Reg8) : Instr :=
  match y with
  | 0 => .rlcMIxCopy i d r | 1 => .rrcMIxCopy i d r | 2 => .rlMIxCopy i d r | 3 => .rrMIxCopy i d r
  | 4 => .slaMIxCopy i d r | 5 => .sraMIxCopy i d r | 6 => .sllMIxCopy i d r | _ => .srlMIxCopy i d r

/-- The unprefixed space, x = 00 (30 R188). -/
def decodeX0 (op : Byte) (rest : List Byte) : Decoded :=
  match opZ op with
  | 0 =>
    match opY op with
    | 0 => take0 .nop rest
    | 1 => take0 .exAfAf rest
    | 2 => take1 .djnz rest
    | 3 => take1 .jr rest
    | y => take1 (.jrC (JrCond.ofCode (y - 4))) rest
  | 1 =>
    if opQ op = 0 then takeWord (.ldRrNn (RegPair.ofCode (opP op))) rest
    else take0 (.addHlRr (RegPair.ofCode (opP op))) rest
  | 2 =>
    match opY op with
    | 0 => take0 .ldMBcA rest
    | 1 => take0 .ldAMBc rest
    | 2 => take0 .ldMDeA rest
    | 3 => take0 .ldAMDe rest
    | 4 => takeWord .ldMNnHl rest
    | 5 => takeWord .ldHlMNn rest
    | 6 => takeWord .ldMNnA rest
    | _ => takeWord .ldAMNn rest
  | 3 =>
    if opQ op = 0 then take0 (.incRr (RegPair.ofCode (opP op))) rest
    else take0 (.decRr (RegPair.ofCode (opP op))) rest
  | 4 =>
    match Reg8.ofCode (opY op) with
    | some r => take0 (.incR r) rest
    | none => take0 .incMHl rest
  | 5 =>
    match Reg8.ofCode (opY op) with
    | some r => take0 (.decR r) rest
    | none => take0 .decMHl rest
  | 6 =>
    match Reg8.ofCode (opY op) with
    | some r => take1 (.ldRN r) rest
    | none => take1 .ldMHlN rest
  | _ =>
    match opY op with
    | 0 => take0 .rlca rest
    | 1 => take0 .rrca rest
    | 2 => take0 .rla rest
    | 3 => take0 .rra rest
    | 4 => take0 .daa rest
    | 5 => take0 .cpl rest
    | 6 => take0 .scf rest
    | _ => take0 .ccf rest

/-- The unprefixed space, x = 01: `HALT` and the register loads (30 R188). -/
def decodeX1 (op : Byte) (rest : List Byte) : Decoded :=
  match Reg8.ofCode (opY op), Reg8.ofCode (opZ op) with
  | some r, some r2 => take0 (.ldRS r r2) rest
  | some r, none => take0 (.ldRMHl r) rest
  | none, some r2 => take0 (.ldMHlS r2) rest
  | none, none => take0 .halt rest

/-- The unprefixed space, x = 10: the ALU operations (30 R188). -/
def decodeX2 (op : Byte) (rest : List Byte) : Decoded :=
  match Reg8.ofCode (opZ op) with
  | some r => take0 (aluR (opY op) r) rest
  | none => take0 (aluMHl (opY op)) rest

/-- The unprefixed space, x = 11, without the prefix bytes (30 R188). -/
def decodeX3 (op : Byte) (rest : List Byte) : Decoded :=
  match opZ op with
  | 0 => take0 (.retC (Cond.ofCode (opY op))) rest
  | 1 =>
    if opQ op = 0 then take0 (.popQq (StackPair.ofCode (opP op))) rest
    else
      match opP op with
      | 0 => take0 .ret rest
      | 1 => take0 .exx rest
      | 2 => take0 .jpHl rest
      | _ => take0 .ldSpHl rest
  | 2 => takeWord (.jpCNn (Cond.ofCode (opY op))) rest
  | 3 =>
    match opY op with
    | 0 => takeWord .jpNn rest
    | 2 => take1 .outNA rest
    | 3 => take1 .inAN rest
    | 4 => take0 .exMSpHl rest
    | 5 => take0 .exDeHl rest
    | 6 => take0 .di rest
    | _ => take0 .ei rest
  | 4 => takeWord (.callCNn (Cond.ofCode (opY op))) rest
  | 5 =>
    if opQ op = 0 then take0 (.pushQq (StackPair.ofCode (opP op))) rest
    else takeWord .callNn rest
  | 6 => take1 (aluN (opY op)) rest
  | _ => take0 (.rst (BitVec.ofNat 3 (opY op))) rest

/-- The unprefixed space (30 R188). -/
def decodeMain (op : Byte) (rest : List Byte) : Decoded :=
  match opX op with
  | 0 => decodeX0 op rest
  | 1 => decodeX1 op rest
  | 2 => decodeX2 op rest
  | _ => decodeX3 op rest

/-- The CB space (30 R189). -/
def decodeCb (op : Byte) : Instr :=
  match opX op, Reg8.ofCode (opZ op) with
  | 0, some r => rotR (opY op) r
  | 0, none => rotMHl (opY op)
  | 1, some r => .bitBR (BitVec.ofNat 3 (opY op)) r
  | 1, none => .bitBMHl (BitVec.ofNat 3 (opY op))
  | 2, some r => .resBR (BitVec.ofNat 3 (opY op)) r
  | 2, none => .resBMHl (BitVec.ofNat 3 (opY op))
  | _, some r => .setBR (BitVec.ofNat 3 (opY op)) r
  | _, none => .setBMHl (BitVec.ofNat 3 (opY op))

/-- The block instructions `bli[y][z]` (30 R191). -/
def decodeBlock (y z : Nat) : Instr :=
  match y, z with
  | 4, 0 => .ldi | 4, 1 => .cpi | 4, 2 => .ini | 4, _ => .outi
  | 5, 0 => .ldd | 5, 1 => .cpd | 5, 2 => .ind | 5, _ => .outd
  | 6, 0 => .ldir | 6, 1 => .cpir | 6, 2 => .inir | 6, _ => .otir
  | _, 0 => .lddr | _, 1 => .cpdr | _, 2 => .indr | _, _ => .otdr

/-- The ED space, x = 01 (30 R191). -/
def decodeEd1 (op : Byte) (rest : List Byte) : Decoded :=
  match opZ op with
  | 0 =>
    match Reg8.ofCode (opY op) with
    | some r => take0 (.inRC r) rest
    | none => take0 .inFC rest
  | 1 =>
    match Reg8.ofCode (opY op) with
    | some r => take0 (.outCR r) rest
    | none => take0 .outC0 rest
  | 2 =>
    if opQ op = 0 then take0 (.sbcHlRr (RegPair.ofCode (opP op))) rest
    else take0 (.adcHlRr (RegPair.ofCode (opP op))) rest
  | 3 =>
    if opQ op = 0 then takeWord (.ldMNnRr (RegPair.ofCode (opP op))) rest
    else takeWord (.ldRrMNn (RegPair.ofCode (opP op))) rest
  | 4 =>
    match opY op with
    | 0 => take0 .neg rest
    | y => take0 (.negDup (BitVec.ofNat 3 y)) rest
  | 5 =>
    match opY op with
    | 0 => take0 .retn rest
    | 1 => take0 .reti rest
    | y => take0 (.retnDup (BitVec.ofNat 3 y)) rest
  | 6 =>
    match opY op with
    | 0 => take0 .im0 rest
    | 2 => take0 .im1 rest
    | 3 => take0 .im2 rest
    | y => take0 (.imDup (BitVec.ofNat 3 y)) rest
  | _ =>
    match opY op with
    | 0 => take0 .ldIA rest
    | 1 => take0 .ldRA rest
    | 2 => take0 .ldAI rest
    | 3 => take0 .ldAR rest
    | 4 => take0 .rrd rest
    | 5 => take0 .rld rest
    | 6 => take0 (.nopEd7 false) rest
    | _ => take0 (.nopEd7 true) rest

/-- The ED space (30 R191). -/
def decodeEd (op : Byte) (rest : List Byte) : Decoded :=
  if isUndefinedEd op then take0 (.noni op) rest
  else if opX op = 1 then decodeEd1 op rest
  else take0 (decodeBlock (opY op) (opZ op)) rest

/-- The XCB4 format: displacement d, then the opcode (30 R197). -/
def decodeXcb (i : Idx) (rest : List Byte) : Decoded :=
  match rest with
  | d :: op :: t =>
    let bit := BitVec.ofNat 3 (opY op)
    match opX op, Reg8.ofCode (opZ op) with
    | 0, none => .ok (rotMIx (opY op) i d, t)
    | 0, some r => .ok (rotMIxCopy (opY op) i d r, t)
    | 1, none => .ok (.bitBMIx i bit d, t)
    | 1, some r => .ok (.bitBMIxDup i bit d r, t)
    | 2, none => .ok (.resBMIx i bit d, t)
    | 2, some r => .ok (.resBMIxCopy i bit d r, t)
    | _, none => .ok (.setBMIx i bit d, t)
    | _, some r => .ok (.setBMIxCopy i bit d r, t)
  | _ => .error .truncated

/-- The opcodes a DD or FD byte affects: those that name H, L, (HL) or HL, without HALT, EX DE,HL
and EXX, plus 0xCB (30 R195). -/
def ddAffected (op : Byte) : Bool :=
  let y := opY op
  let z := opZ op
  let mid (k : Nat) : Bool := k == 4 || k == 5 || k == 6
  match opX op with
  | 0 =>
    match z with
    | 1 => opQ op == 1 || y == 4
    | 2 => y == 4 || y == 5
    | 3 => y == 4 || y == 5
    | 4 | 5 | 6 => mid y
    | _ => false
  | 1 => op != 0x76 && (mid y || mid z)
  | 2 => mid z
  | _ => op == 0xCB || op == 0xE1 || op == 0xE3 || op == 0xE5 || op == 0xE9 || op == 0xF9

/-- The DD and FD space, for an affected opcode other than 0xCB (30 R193, R194, R196). -/
def decodeIdxOp (i : Idx) (op : Byte) (rest : List Byte) : Decoded :=
  match opX op with
  | 0 =>
    match opZ op with
    | 1 =>
      if opQ op = 0 then takeWord (.ldIiNn i) rest
      else take0 (.addIiRr i (IdxPair.ofCode (opP op))) rest
    | 2 => if opQ op = 0 then takeWord (.ldMNnIi i) rest else takeWord (.ldIiMNn i) rest
    | 3 => if opQ op = 0 then take0 (.incIi i) rest else take0 (.decIi i) rest
    | 4 => if opY op = 6 then take1 (.incMIx i) rest else take0 (.incIhl i (Half.ofBit (opQ op))) rest
    | 5 => if opY op = 6 then take1 (.decMIx i) rest else take0 (.decIhl i (Half.ofBit (opQ op))) rest
    | _ => if opY op = 6 then take2 (.ldMIxN i) rest else take1 (.ldIhlN i (Half.ofBit (opQ op))) rest
  | 1 =>
    match Reg8.ofCode (opY op), Reg8.ofCode (opZ op) with
    | some r, none => take1 (.ldRMIx i r) rest
    | none, some r2 => take1 (.ldMIxS i r2) rest
    | _, _ =>
      match HalfReg.ofCode (opY op), HalfReg.ofCode (opZ op) with
      | some r, some r2 => take0 (.ldHalves i r r2) rest
      | _, _ => take0 (.ignoredPrefix i) (op :: rest)
  | 2 =>
    if opZ op = 6 then take1 (aluMIx (opY op) i) rest
    else take0 (aluIhl (opY op) i (Half.ofBit (opZ op % 2))) rest
  | _ =>
    match opY op, opZ op with
    | 4, 1 => take0 (.popIi i) rest
    | 4, 3 => take0 (.exMSpIi i) rest
    | 4, 5 => take0 (.pushIi i) rest
    | 5, _ => take0 (.jpIi i) rest
    | _, _ => take0 (.ldSpIi i) rest

/-- The three cases of the byte after DD or FD (30 R192): affected, 0xCB, ignored prefix. An ignored
prefix leaves the byte after it unread. -/
def decodeIdx (i : Idx) (rest : List Byte) : Decoded :=
  match rest with
  | op :: t =>
    if op = 0xCB then decodeXcb i t
    else if ddAffected op then decodeIdxOp i op t
    else .ok (.ignoredPrefix i, op :: t)
  | [] => .error .truncated

/-- The Z80 decoder (30 R188 to R199): the instruction at the head of the bytes and the bytes after it. -/
def decode (bs : List Byte) : Decoded :=
  match bs with
  | [] => .error .truncated
  | op :: rest =>
    if op = 0xCB then
      match rest with
      | op2 :: t => .ok (decodeCb op2, t)
      | [] => .error .truncated
    else if op = 0xED then
      match rest with
      | op2 :: t => decodeEd op2 t
      | [] => .error .truncated
    else if op = 0xDD then decodeIdx .ix rest
    else if op = 0xFD then decodeIdx .iy rest
    else decodeMain op rest

/-- The first byte is a prefix, so that the byte after it is read by an opcode fetch too
(30 R189, R191, R192). -/
def isPrefixByte (op : Byte) : Bool := op == 0xCB || op == 0xED || op == 0xDD || op == 0xFD

/-- The WD1793 command byte (30 R205). Bits the table shows as 0 in types II and III are ignored. -/
def decodeWdCommand (v : Byte) : Instr :=
  let h := v.getLsbD 3
  let vb := v.getLsbD 2
  let r := v.extractLsb' 0 2
  let u := v.getLsbD 4
  match v.toNat / 16 with
  | 0 => .wdRestore h vb r
  | 1 => .wdSeek h vb r
  | 2 | 3 => .wdStep u h vb r
  | 4 | 5 => .wdStepIn u h vb r
  | 6 | 7 => .wdStepOut u h vb r
  | 8 | 9 => .wdReadSector u h vb (v.getLsbD 1)
  | 10 | 11 => .wdWriteSector u h vb (v.getLsbD 1) (v.getLsbD 0)
  | 12 => .wdReadAddress vb
  | 13 => .wdForceInterrupt (v.extractLsb' 0 4)
  | 14 => .wdReadTrack vb
  | _ => .wdWriteTrack vb

/-! ## Encoding -/

/-- The opcode byte with fields x, y, z (30 R181). -/
def opXyz (x : BitVec 2) (y z : BitVec 3) : Byte := x ++ y ++ z

/-- The opcode byte with fields x, p, q, z (30 R181). -/
def opXpqz (x p : BitVec 2) (q : BitVec 1) (z : BitVec 3) : Byte := x ++ p ++ q ++ z

/-- The low byte of an immediate word. -/
def immLo (nn : Word) : Byte := nn.extractLsb' 0 8
/-- The high byte of an immediate word. -/
def immHi (nn : Word) : Byte := nn.extractLsb' 8 8

/-- The code of a register (30 R182). -/
def Reg8.code : Reg8 → BitVec 3
  | .b => 0 | .c => 1 | .d => 2 | .e => 3 | .h => 4 | .l => 5 | .a => 7

/-- The code of a register pair (30 R183). -/
def RegPair.code : RegPair → BitVec 2
  | .bc => 0 | .de => 1 | .hl => 2 | .sp => 3

/-- The code of a stack pair (30 R183). -/
def StackPair.code : StackPair → BitVec 2
  | .bc => 0 | .de => 1 | .hl => 2 | .af => 3

/-- The code of the pair of `ADD ii,pp` (41 R324). -/
def IdxPair.code : IdxPair → BitVec 2
  | .bc => 0 | .de => 1 | .ii => 2 | .sp => 3

/-- The code of a condition (30 R190). -/
def Cond.code : Cond → BitVec 3
  | .nz => 0 | .z => 1 | .nc => 2 | .c => 3 | .po => 4 | .pe => 5 | .p => 6 | .m => 7

/-- The y field of `JR cc`: the condition's code plus 4 (30 R190). -/
def JrCond.code : JrCond → BitVec 3
  | .nz => 4 | .z => 5 | .nc => 6 | .c => 7

/-- The code of a register under DD or FD (30 R196). -/
def HalfReg.code : HalfReg → BitVec 3
  | .b => 0 | .c => 1 | .d => 2 | .e => 3 | .ih => 4 | .il => 5 | .a => 7

/-- The code of an index half: H's or L's (30 R196). -/
def Half.code : Half → BitVec 3
  | .ih => 4 | .il => 5

/-- The index prefix byte (30 R192). -/
def Idx.byte : Idx → Byte
  | .ix => 0xDD | .iy => 0xFD

/-- An XCB4 encoding: prefix, 0xCB, displacement, opcode (30 R197). -/
def encXcb (i : Idx) (d : Byte) (x : BitVec 2) (y z : BitVec 3) : List Byte :=
  [i.byte, 0xCB, d, opXyz x y z]

/-- A Type I command byte: high bits, h, V, r1 r0 (30 R205). -/
def encTypeI (hi : BitVec 4) (h v : Bool) (r : BitVec 2) : List Byte :=
  [hi ++ BitVec.ofBool h ++ BitVec.ofBool v ++ r]

/-- The bytes of an instruction, in the order of increasing addresses; for a WD1793 command, its
command byte. -/
def encode : Instr → List Byte
  | .nop => [0x00]
  | .ldRrNn rr nn => [opXpqz 0 rr.code 0 1, immLo nn, immHi nn]
  | .addHlRr rr => [opXpqz 0 rr.code 1 1]
  | .ldMBcA => [0x02]
  | .ldMDeA => [0x12]
  | .ldMNnHl nn => [0x22, immLo nn, immHi nn]
  | .ldMNnA nn => [0x32, immLo nn, immHi nn]
  | .ldAMBc => [0x0A]
  | .ldAMDe => [0x1A]
  | .ldHlMNn nn => [0x2A, immLo nn, immHi nn]
  | .ldAMNn nn => [0x3A, immLo nn, immHi nn]
  | .incRr rr => [opXpqz 0 rr.code 0 3]
  | .decRr rr => [opXpqz 0 rr.code 1 3]
  | .incR r => [opXyz 0 r.code 4]
  | .incMHl => [0x34]
  | .decR r => [opXyz 0 r.code 5]
  | .decMHl => [0x35]
  | .ldRN r n => [opXyz 0 r.code 6, n]
  | .ldMHlN n => [0x36, n]
  | .rlca => [0x07]
  | .rrca => [0x0F]
  | .rla => [0x17]
  | .rra => [0x1F]
  | .daa => [0x27]
  | .cpl => [0x2F]
  | .scf => [0x37]
  | .ccf => [0x3F]
  | .exAfAf => [0x08]
  | .djnz e => [0x10, e]
  | .jr e => [0x18, e]
  | .jrC cc e => [opXyz 0 cc.code 0, e]
  | .ldRS r r2 => [opXyz 1 r.code r2.code]
  | .ldRMHl r => [opXyz 1 r.code 6]
  | .ldMHlS r => [opXyz 1 6 r.code]
  | .halt => [0x76]
  | .addAR r => [opXyz 2 0 r.code]
  | .addAMHl => [0x86]
  | .addAN n => [0xC6, n]
  | .adcAR r => [opXyz 2 1 r.code]
  | .adcAMHl => [0x8E]
  | .adcAN n => [0xCE, n]
  | .subAR r => [opXyz 2 2 r.code]
  | .subAMHl => [0x96]
  | .subAN n => [0xD6, n]
  | .sbcAR r => [opXyz 2 3 r.code]
  | .sbcAMHl => [0x9E]
  | .sbcAN n => [0xDE, n]
  | .andAR r => [opXyz 2 4 r.code]
  | .andAMHl => [0xA6]
  | .andAN n => [0xE6, n]
  | .xorAR r => [opXyz 2 5 r.code]
  | .xorAMHl => [0xAE]
  | .xorAN n => [0xEE, n]
  | .orAR r => [opXyz 2 6 r.code]
  | .orAMHl => [0xB6]
  | .orAN n => [0xF6, n]
  | .cpAR r => [opXyz 2 7 r.code]
  | .cpAMHl => [0xBE]
  | .cpAN n => [0xFE, n]
  | .retC cc => [opXyz 3 cc.code 0]
  | .popQq qq => [opXpqz 3 qq.code 0 1]
  | .ret => [0xC9]
  | .exx => [0xD9]
  | .jpHl => [0xE9]
  | .ldSpHl => [0xF9]
  | .jpCNn cc nn => [opXyz 3 cc.code 2, immLo nn, immHi nn]
  | .jpNn nn => [0xC3, immLo nn, immHi nn]
  | .outNA n => [0xD3, n]
  | .inAN n => [0xDB, n]
  | .exMSpHl => [0xE3]
  | .exDeHl => [0xEB]
  | .di => [0xF3]
  | .ei => [0xFB]
  | .callCNn cc nn => [opXyz 3 cc.code 4, immLo nn, immHi nn]
  | .pushQq qq => [opXpqz 3 qq.code 0 5]
  | .callNn nn => [0xCD, immLo nn, immHi nn]
  | .rst t => [opXyz 3 t 7]
  | .rlcR r => [0xCB, opXyz 0 0 r.code]
  | .rlcMHl => [0xCB, 0x06]
  | .rrcR r => [0xCB, opXyz 0 1 r.code]
  | .rrcMHl => [0xCB, 0x0E]
  | .rlR r => [0xCB, opXyz 0 2 r.code]
  | .rlMHl => [0xCB, 0x16]
  | .rrR r => [0xCB, opXyz 0 3 r.code]
  | .rrMHl => [0xCB, 0x1E]
  | .slaR r => [0xCB, opXyz 0 4 r.code]
  | .slaMHl => [0xCB, 0x26]
  | .sraR r => [0xCB, opXyz 0 5 r.code]
  | .sraMHl => [0xCB, 0x2E]
  | .sllR r => [0xCB, opXyz 0 6 r.code]
  | .sllMHl => [0xCB, 0x36]
  | .srlR r => [0xCB, opXyz 0 7 r.code]
  | .srlMHl => [0xCB, 0x3E]
  | .bitBR bit r => [0xCB, opXyz 1 bit r.code]
  | .bitBMHl bit => [0xCB, opXyz 1 bit 6]
  | .resBR bit r => [0xCB, opXyz 2 bit r.code]
  | .resBMHl bit => [0xCB, opXyz 2 bit 6]
  | .setBR bit r => [0xCB, opXyz 3 bit r.code]
  | .setBMHl bit => [0xCB, opXyz 3 bit 6]
  | .inRC r => [0xED, opXyz 1 r.code 0]
  | .inFC => [0xED, 0x70]
  | .outCR r => [0xED, opXyz 1 r.code 1]
  | .outC0 => [0xED, 0x71]
  | .sbcHlRr rr => [0xED, opXpqz 1 rr.code 0 2]
  | .adcHlRr rr => [0xED, opXpqz 1 rr.code 1 2]
  | .ldMNnRr rr nn => [0xED, opXpqz 1 rr.code 0 3, immLo nn, immHi nn]
  | .ldRrMNn rr nn => [0xED, opXpqz 1 rr.code 1 3, immLo nn, immHi nn]
  | .neg => [0xED, 0x44]
  | .negDup y => [0xED, opXyz 1 y 4]
  | .retn => [0xED, 0x45]
  | .reti => [0xED, 0x4D]
  | .retnDup y => [0xED, opXyz 1 y 5]
  | .im0 => [0xED, 0x46]
  | .im1 => [0xED, 0x56]
  | .im2 => [0xED, 0x5E]
  | .imDup y => [0xED, opXyz 1 y 6]
  | .ldIA => [0xED, 0x47]
  | .ldRA => [0xED, 0x4F]
  | .ldAI => [0xED, 0x57]
  | .ldAR => [0xED, 0x5F]
  | .rrd => [0xED, 0x67]
  | .rld => [0xED, 0x6F]
  | .nopEd7 y => [0xED, if y then 0x7F else 0x77]
  | .ldi => [0xED, 0xA0]
  | .ldd => [0xED, 0xA8]
  | .ldir => [0xED, 0xB0]
  | .lddr => [0xED, 0xB8]
  | .cpi => [0xED, 0xA1]
  | .cpd => [0xED, 0xA9]
  | .cpir => [0xED, 0xB1]
  | .cpdr => [0xED, 0xB9]
  | .ini => [0xED, 0xA2]
  | .ind => [0xED, 0xAA]
  | .inir => [0xED, 0xB2]
  | .indr => [0xED, 0xBA]
  | .outi => [0xED, 0xA3]
  | .outd => [0xED, 0xAB]
  | .otir => [0xED, 0xB3]
  | .otdr => [0xED, 0xBB]
  | .noni op => [0xED, op]
  | .ldIiNn i nn => [i.byte, 0x21, immLo nn, immHi nn]
  | .addIiRr i pp => [i.byte, opXpqz 0 pp.code 1 1]
  | .ldMNnIi i nn => [i.byte, 0x22, immLo nn, immHi nn]
  | .ldIiMNn i nn => [i.byte, 0x2A, immLo nn, immHi nn]
  | .incIi i => [i.byte, 0x23]
  | .decIi i => [i.byte, 0x2B]
  | .incIhl i h => [i.byte, opXyz 0 h.code 4]
  | .decIhl i h => [i.byte, opXyz 0 h.code 5]
  | .ldIhlN i h n => [i.byte, opXyz 0 h.code 6, n]
  | .incMIx i d => [i.byte, 0x34, d]
  | .decMIx i d => [i.byte, 0x35, d]
  | .ldMIxN i d n => [i.byte, 0x36, d, n]
  | .ldRMIx i r d => [i.byte, opXyz 1 r.code 6, d]
  | .ldMIxS i r d => [i.byte, opXyz 1 6 r.code, d]
  | .ldHalves i r r2 => [i.byte, opXyz 1 r.code r2.code]
  | .addAIhl i h => [i.byte, opXyz 2 0 h.code]
  | .addAMIx i d => [i.byte, 0x86, d]
  | .adcAIhl i h => [i.byte, opXyz 2 1 h.code]
  | .adcAMIx i d => [i.byte, 0x8E, d]
  | .subAIhl i h => [i.byte, opXyz 2 2 h.code]
  | .subAMIx i d => [i.byte, 0x96, d]
  | .sbcAIhl i h => [i.byte, opXyz 2 3 h.code]
  | .sbcAMIx i d => [i.byte, 0x9E, d]
  | .andAIhl i h => [i.byte, opXyz 2 4 h.code]
  | .andAMIx i d => [i.byte, 0xA6, d]
  | .xorAIhl i h => [i.byte, opXyz 2 5 h.code]
  | .xorAMIx i d => [i.byte, 0xAE, d]
  | .orAIhl i h => [i.byte, opXyz 2 6 h.code]
  | .orAMIx i d => [i.byte, 0xB6, d]
  | .cpAIhl i h => [i.byte, opXyz 2 7 h.code]
  | .cpAMIx i d => [i.byte, 0xBE, d]
  | .popIi i => [i.byte, 0xE1]
  | .exMSpIi i => [i.byte, 0xE3]
  | .pushIi i => [i.byte, 0xE5]
  | .jpIi i => [i.byte, 0xE9]
  | .ldSpIi i => [i.byte, 0xF9]
  | .ignoredPrefix i => [i.byte]
  | .rlcMIx i d => encXcb i d 0 0 6
  | .rlcMIxCopy i d r => encXcb i d 0 0 r.code
  | .rrcMIx i d => encXcb i d 0 1 6
  | .rrcMIxCopy i d r => encXcb i d 0 1 r.code
  | .rlMIx i d => encXcb i d 0 2 6
  | .rlMIxCopy i d r => encXcb i d 0 2 r.code
  | .rrMIx i d => encXcb i d 0 3 6
  | .rrMIxCopy i d r => encXcb i d 0 3 r.code
  | .slaMIx i d => encXcb i d 0 4 6
  | .slaMIxCopy i d r => encXcb i d 0 4 r.code
  | .sraMIx i d => encXcb i d 0 5 6
  | .sraMIxCopy i d r => encXcb i d 0 5 r.code
  | .sllMIx i d => encXcb i d 0 6 6
  | .sllMIxCopy i d r => encXcb i d 0 6 r.code
  | .srlMIx i d => encXcb i d 0 7 6
  | .srlMIxCopy i d r => encXcb i d 0 7 r.code
  | .bitBMIx i bit d => encXcb i d 1 bit 6
  | .bitBMIxDup i bit d r => encXcb i d 1 bit r.code
  | .resBMIx i bit d => encXcb i d 2 bit 6
  | .resBMIxCopy i bit d r => encXcb i d 2 bit r.code
  | .setBMIx i bit d => encXcb i d 3 bit 6
  | .setBMIxCopy i bit d r => encXcb i d 3 bit r.code
  | .wdRestore h v r => encTypeI 0 h v r
  | .wdSeek h v r => encTypeI 1 h v r
  | .wdStep u h v r => encTypeI (1#3 ++ BitVec.ofBool u) h v r
  | .wdStepIn u h v r => encTypeI (2#3 ++ BitVec.ofBool u) h v r
  | .wdStepOut u h v r => encTypeI (3#3 ++ BitVec.ofBool u) h v r
  | .wdReadSector m side e c => encTypeI (4#3 ++ BitVec.ofBool m) side e (BitVec.ofBool c ++ 0#1)
  | .wdWriteSector m side e c a0 =>
    encTypeI (5#3 ++ BitVec.ofBool m) side e (BitVec.ofBool c ++ BitVec.ofBool a0)
  | .wdReadAddress e => encTypeI 12 false e 0
  | .wdReadTrack e => encTypeI 14 false e 0
  | .wdWriteTrack e => encTypeI 15 false e 0
  | .wdForceInterrupt cond => [13#4 ++ cond]

/-- The instruction is one of the eleven WD1793 commands, which the Z80 decoder never answers: they
reach the machine as a byte written to the command port (30 R205, 47 R602). -/
def Instr.isWdCommand : Instr → Bool
  | .wdRestore .. | .wdSeek .. | .wdStep .. | .wdStepIn .. | .wdStepOut .. | .wdReadSector ..
  | .wdWriteSector .. | .wdReadAddress .. | .wdReadTrack .. | .wdWriteTrack ..
  | .wdForceInterrupt .. => true
  | _ => false

/-! ## The opcode table's words -/

/-- `k` bytes of `w`, the most significant first: the order in which spec/opcode_table.json numbers a
row's bits (its match 0xDDCB0006 begins with the byte 0xDD). -/
def bytesBig (w : Nat) : Nat → List Byte
  | 0 => []
  | k + 1 => BitVec.ofNat 8 (w / 256 ^ k) :: bytesBig w k

/-- `k` bytes of `w`, the least significant first. -/
def bytesLittle (w : Nat) : Nat → List Byte
  | 0 => []
  | k + 1 => BitVec.ofNat 8 w :: bytesLittle (w / 256) k

/-- The instruction at the head of `bs` takes exactly `k` bytes. -/
def fills (bs : List Byte) (k : Nat) : Bool :=
  match decode (bs ++ [0, 0, 0, 0]) with
  | .ok (_, rest) => rest.length + k == bs.length + 4
  | .error _ => false

/-- A table word as the bytes the hardware stores, zeros above. The table's own numbering (most
significant byte first) is taken when the instruction it gives fills the word; else the first byte
is the least significant (log 13). -/
def tableBytes (nbits w : Nat) : List Byte :=
  let k := nbits / 8
  let big := bytesBig w k
  (if fills big k then big else bytesLittle w k) ++ [0, 0, 0, 0]

/-- The instruction the decoder reads from a table word (log 12, log 13). -/
def decodeTableWord (nbits w : Nat) : Option Instr :=
  match decode (tableBytes nbits w) with
  | .ok (i, _) => some i
  | .error _ => none

end Sys2Proof
end

