-- ==== Sys2Proof/Machine/Fetch.lean ====
section
/-! DEFINITION. Which bytes an instruction step decodes, and where they stand (44 R461, 30 R188 to R199,
20 R108; log 14). -/

namespace Sys2Proof.Machine

/-- The page table the first opcode byte is fetched through (20 R108). -/
def firstPaging (s : State) : Paging := fetchPaging s.cfg s.paging s.cpu.pc

/-- The page table the later bytes are read through: the byte after a prefix is an opcode fetch too
(30 R189, R191, R192; 20 R108). -/
def laterPaging (s : State) (op : Byte) : Paging :=
  if isPrefixByte op then fetchPaging s.cfg (firstPaging s) (s.cpu.pc + 1) else firstPaging s

/-- The first opcode byte. -/
def firstByte (s : State) : Byte := readThrough (firstPaging s) s.rom s.ram s.cpu.pc

/-- The four bytes from PC on, each as the step reads it; no instruction is longer (30 R198). -/
def peekBytes (s : State) : List Byte :=
  let q := laterPaging s (firstByte s)
  [firstByte s, readThrough q s.rom s.ram (s.cpu.pc + 1), readThrough q s.rom s.ram (s.cpu.pc + 2),
    readThrough q s.rom s.ram (s.cpu.pc + 3)]

/-- A byte placed where a page table maps an address, a ROM included: the host's own placing, not a
store. -/
def placeByte (p : Paging) (a : Word) (v : Byte) (s : State) : State :=
  match (slotAt p a).page with
  | .rom id => { s with rom := memSet s.rom (romPlace id (pageOffset a)) v }
  | .ram b => { s with ram := memSet s.ram (ramPlace b (pageOffset a)) v }

/-- Bytes placed where an instruction step reads them. -/
def placeInstruction (bs : List Byte) (s : State) : State :=
  let p := firstPaging s
  let q := laterPaging s (bs.headD 0)
  placeByte q (s.cpu.pc + 3) (bs.getD 3 0) (placeByte q (s.cpu.pc + 2) (bs.getD 2 0)
    (placeByte q (s.cpu.pc + 1) (bs.getD 1 0) (placeByte p s.cpu.pc (bs.headD 0) s)))

/-- A maskable interrupt is accepted at this boundary of the frame loop (44 R463). -/
def acceptsInt (s : State) : Bool :=
  intActive s.cfg s.clock.tstates && s.cpu.iff1 && !s.cpu.eiBlock

/-- What must hold for the next step to be an instruction step: no host action due, no interrupt, not
halted, the frame not over. -/
def readyForInstruction (s : State) : State :=
  let t := { s with
    hostQueue := if s.frameBoundary then [] else s.hostQueue,
    clock := { s.clock with
      tstates := if s.clock.tstates < (archConfig s.cfg).tFrame then s.clock.tstates else 0 },
    cpu := { s.cpu with halted := false, nmiPending := false } }
  { t with cpu := { t.cpu with eiBlock := t.cpu.eiBlock || acceptsInt t } }

end Sys2Proof.Machine
end

