-- ==== Sys2Proof/Machine/Frame.lean ====
section
/-! DEFINITION. The frame executor's steps other than an instruction's own effect (44 R460 to R470), and
the host's actions at a frame boundary (44 R480, R481; 70 R780). -/

namespace Sys2Proof.Machine

/-! ## Steps of the frame loop -/

/-- A step of the frame loop has begun: the machine stands at a frame boundary no more (log 9). -/
def State.inFrame (s : State) : State := { s with frameBoundary := false }

/-- The start of an instruction step and of a halted step: `eiBlock <- false` (44 R461, R464). -/
def State.clearEiBlock (s : State) : State := { s with cpu := { s.cpu with eiBlock := false } }

/-- `HaltedStep()` (44 R464). -/
def haltedStep (s : State) : State := fetch s.cpu.pc s.clearEiBlock

/-- The flash counter moved on by a frame (44 R470, 45 R522). -/
def Ula.nextFrame (u : Ula) : Ula :=
  { u with flashCount := u.flashCount + 1,
           flashPhase := if u.flashCount + 1 = 0 then !u.flashPhase else u.flashPhase }

/-- The clocks at the end of a frame (44 R470). -/
def Clock.nextFrame (tFrame : Nat) (c : Clock) : Clock :=
  { c with tstates := c.tstates - tFrame, frameCounter := c.frameCounter + 1 }

/-- `EndOfFrame()` (44 R470); the machine then stands at a frame boundary (log 27). -/
def endOfFrame (s : State) : State :=
  { s with
    disk := s.disk.catchUp s.cfg s.clock.absTime,
    tape := s.tape.catchUp s.cfg s.clock.absTime,
    ay := s.ay.finishFrame s.cfg,
    clock := s.clock.nextFrame (archConfig s.cfg).tFrame,
    ula := s.ula.nextFrame,
    frameBoundary := true }

/-! ## Host actions -/

/-- The bytes of RAM: eight banks of 16384. -/
def ramSize : Nat := 131072

/-- The interrupt mode of a number. -/
def imOfNat (n : Nat) : IntMode :=
  match n with
  | 0 => .im0
  | 1 => .im1
  | _ => .im2

/-- The Z80 a snapshot sets (44 R481). -/
def Snapshot.toCpu (snap : Snapshot) : Cpu :=
  { snap.cpu with
    pc := BitVec.ofNat 16 snap.pc, sp := BitVec.ofNat 16 snap.sp, im := imOfNat snap.im,
    halted := false, eiBlock := false, nmiPending := false }

/-- AY registers written from a snapshot, with no sample catch-up (44 R481, 46 R554). They are written from
0 up to 13, so register 13's restart of the envelope takes the period of the snapshot's registers 11 and
12; no rule gives the order (DESIGN CHOICE, unsafe: log 25). -/
def Ay.load (regs : Vector Byte 14) (ay : Ay) : Ay :=
  (List.range 14).foldl (fun ay i => ay.setReg i (if h : i < 14 then regs[i] else 0)) ay

/-- A consistent snapshot loaded (44 R481). -/
def loadSnapshot (snap : Snapshot) (s : State) : State :=
  let ac := archConfig s.cfg
  let port := if ac.hasPaging then byteOf snap.port7FFD else s.paging.port7FFD
  { s with
    cpu := snap.toCpu,
    ram := memSetAll [] (snap.ram.filter fun c => decide (c.1 < ramSize)),
    ula := { s.ula with borderColour := snap.border },
    paging := pageTable s.cfg port false,
    clock := { s.clock with tstates := snap.tstates.getD 0 },
    ay := match snap.ayRegs with
          | some regs => if ac.hasAy then s.ay.load regs else s.ay
          | none => s.ay }

/-- The drawn registers of a host Reset: 16 bytes and 3 words from draw `n` on (70 R780 step 3). -/
def drawnCpu (n : Nat) : Cpu :=
  let b (k : Nat) : Byte := Config.drawByte (n + k)
  let w (k : Nat) : Word := Config.drawWord (n + k)
  { Cpu.reset with
    a := b 0, f := b 1, b := b 2, c := b 3, d := b 4, e := b 5, h := b 6, l := b 7,
    a2 := b 8, f2 := b 9, b2 := b 10, c2 := b 11, d2 := b 12, e2 := b 13, h2 := b 14, l2 := b 15,
    ix := w 16, iy := w 17, sp := w 18 }

/-- `Reset` as a host action: RAM, the ROM images, the inserted disks and tape, the configuration and
the host inputs are kept (70 R780). The 20 draws are the registers, then the picture (log 7, log 8). -/
def machineReset (s : State) : State :=
  { s with
    cpu := drawnCpu s.drawCount,
    drawCount := s.drawCount + 20,
    clock := Clock.reset,
    paging := pageTable s.cfg 0x00 false,
    ula := { Ula.reset with keyMatrix := s.ula.keyMatrix, kempston := s.ula.kempston },
    framebuffer := { painted := [], drawn := s.drawCount + 19 },
    ay := Ay.reset,
    disk := { wd := Wd.reset, drives := s.disk.drives.map fun d => { d with headTrack := 0 } },
    tape := s.tape.cleared 0 }

/-- Whether the last host action succeeded, noted. -/
def State.noteOk (s : State) (ok : Bool) : State := { s with hostOk := ok }

/-- One host action applied (44 R480). An action the block does not admit changes nothing but `hostOk`. -/
def applyAction (a : HostAction) (s : State) : State :=
  let now := s.clock.absTime
  match a with
  | .frameStep => s.inFrame.noteOk true
  | .setKeys m => { s with ula := { s.ula with keyMatrix := m } }.noteOk true
  | .setKempston b =>
    if s.cfg.kempston then { s with ula := { s.ula with kempston := b } }.noteOk true
    else s.noteOk false
  | .pulseNmi => { s with cpu := { s.cpu with nmiPending := true } }.noteOk true
  | .insertDisk u image wp =>
    if h : u < 4 then
      let r := s.disk.insert s.cfg now ⟨u, h⟩ image wp
      { s with disk := r.1 }.noteOk r.2
    else s.noteOk false
  | .ejectDisk u =>
    if h : u < 4 then { s with disk := s.disk.eject s.cfg now ⟨u, h⟩ }.noteOk true
    else s.noteOk false
  | .tapeInsert image =>
    let r := s.tape.insert s.cfg now image
    { s with tape := r.1 }.noteOk r.2
  | .tapePlay => { s with tape := s.tape.play s.cfg now }.noteOk true
  | .tapeStop => { s with tape := s.tape.stop s.cfg now }.noteOk true
  | .loadSnapshot snap =>
    if snap.consistent s.cfg then (loadSnapshot snap s).noteOk true else s.noteOk false
  | .reset => (machineReset s).noteOk true

end Sys2Proof.Machine
end

