-- ==== Sys2Proof/Machine/Step.lean ====
section
/-! DEFINITION. One step of the machine (44 R460, R463): a host action at a frame boundary, a step of the
frame loop, or the end of a frame. -/

namespace Sys2Proof.Machine

/-- An instruction step: the bytes at PC decoded, then `exec` of the instruction (44 R461). -/
def instructionStep (s : State) : Host.Outcome State Fault Refusal :=
  match decode (peekBytes s) with
  | .ok (i, _) => exec i s.clearEiBlock
  | .error _ => .refused (.undecodable s.cpu.pc)

/-- One turn of the frame loop (44 R463, 60 R750). -/
def loopStep (s : State) : Host.Outcome State Fault Refusal :=
  if s.cpu.nmiPending then .next (acceptNmi s)
  else if acceptsInt s then .next (acceptInt s)
  else if s.cpu.halted then .next (haltedStep s)
  else instructionStep s

/-- One step. A configuration that is not admitted is refused (log 18). An empty queue of host actions
stands for `FrameStep` (log 9). -/
def step (s : State) : Host.Outcome State Fault Refusal :=
  if !cfgAdmitted s.cfg then .refused .configurationRefused
  else
    match s.frameBoundary, s.hostQueue with
    | true, a :: rest => .next (applyAction a { s with hostQueue := rest })
    | _, _ =>
      if s.clock.tstates < (archConfig s.cfg).tFrame then loopStep s.inFrame
      else .next (endOfFrame s)

/-- The instruction of an opcode-table word placed where the next step fetches it, and the state made
ready to fetch (log 3). -/
def State.withFetchWord (s : State) (nbits w : Nat) : State :=
  placeInstruction (tableBytes nbits w) (readyForInstruction s)

end Sys2Proof.Machine
end

