-- ==== Sys2Proof/Safety.lean ====
section
/-! DEFINITION. What counts as a safe step, the invariants of the machine, and the vocabulary the
statements use for what a step leaves unchanged, for the byte steps of the WD1793, the samples of the AY and
the images of the host. -/

namespace Sys2Proof.Machine

/-! ## Safe steps -/

/-- A step that answers a next state: no refusal (there is no fault). -/
def SafeStep (s : State) : Prop := ∃ t, step s = .next t

/-- The instructions of the rows the opcode table calls undocumented (30 R200). -/
def isUndocumented : Instr → Bool
  | .sllR _ | .sllMHl | .inFC | .outC0 | .negDup _ | .retnDup _ | .imDup _ | .nopEd7 _ | .noni _
  | .incIhl _ _ | .decIhl _ _ | .ldIhlN _ _ _ | .ldHalves _ _ _ | .addAIhl _ _ | .adcAIhl _ _
  | .subAIhl _ _ | .sbcAIhl _ _ | .andAIhl _ _ | .xorAIhl _ _ | .orAIhl _ _ | .cpAIhl _ _
  | .ignoredPrefix _ | .rlcMIxCopy _ _ _ | .rrcMIxCopy _ _ _ | .rlMIxCopy _ _ _ | .rrMIxCopy _ _ _
  | .slaMIxCopy _ _ _ | .sraMIxCopy _ _ _ | .sllMIx _ _ | .sllMIxCopy _ _ _ | .srlMIxCopy _ _ _
  | .bitBMIxDup _ _ _ _ | .resBMIxCopy _ _ _ _ | .setBMIxCopy _ _ _ _ => true
  | _ => false

/-! ## Invariants -/

/-- Every memory is in canonical form: RAM, the ROM images, the framebuffer, the disk and tape images. -/
def MemoryForm (s : State) : Prop :=
  Memory.wf s.ram = true ∧ Memory.wf s.rom = true ∧ cellsWf none s.framebuffer.painted = true
    ∧ (∀ u : Fin 4, Memory.wf s.disk.drives[u].image.cells = true)
    ∧ (∀ img, s.tape.image = some img → Memory.wf img.cells = true)

/-- The page table is the function of the latch and the TR-DOS flag that 20 R104 gives. -/
def PageTableForm (s : State) : Prop :=
  s.paging = pageTable s.cfg s.paging.port7FFD s.paging.trdosActive

/-- `global_tstates` is `absTime` modulo 2^24 (10 R38). -/
def ClockForm (s : State) : Prop := s.clock.globalTstates = BitVec.ofNat 24 s.clock.absTime

/-- BUSY is 1 exactly when the controller is not idle, and a controller held in reset is idle
(47 R618, R632). -/
def WdForm (s : State) : Prop :=
  s.disk.wd.statusReg.getLsbD 0 = decide (s.disk.wd.state ≠ .idle)
    ∧ (s.disk.wd.heldInReset = true → s.disk.wd.state = .idle)

/-- No head stands past track 83 (47 R639, R644). -/
def HeadForm (s : State) : Prop := ∀ u : Fin 4, s.disk.drives[u].headTrack ≤ 83

/-- Every AY register holds only bits of its mask, and the LFSR is not 0 (46 R553, R561). -/
def AyForm (s : State) : Prop :=
  (∀ i : Fin 14, s.ay.regs[i] &&& ayMask i.val = s.ay.regs[i]) ∧ s.ay.lfsr ≠ 0

/-! ## What a step leaves unchanged -/

/-- The page table after one opcode fetch at PC (20 R108, R121). -/
def pagingAfter1 (s : State) : Paging := fetchPaging s.cfg s.paging s.cpu.pc

/-- The page table after two opcode fetches from PC on. -/
def pagingAfter2 (s : State) : Paging := fetchPaging s.cfg (pagingAfter1 s) (s.cpu.pc + 1)

/-- The byte an address reads as after one opcode fetch. -/
def readAfter1 (s : State) (a : Word) : Byte := readThrough (pagingAfter1 s) s.rom s.ram a

/-- The byte an address reads as after two opcode fetches. -/
def readAfter2 (s : State) (a : Word) : Byte := readThrough (pagingAfter2 s) s.rom s.ram a

/-- The word at an address after one opcode fetch. -/
def wordAfter1 (s : State) (a : Word) : Word := mkWord (readAfter1 s (a + 1)) (readAfter1 s a)

/-- The word at an address after two opcode fetches. -/
def wordAfter2 (s : State) (a : Word) : Word := mkWord (readAfter2 s (a + 1)) (readAfter2 s a)

/-- The Z80 after an instruction of one opcode fetch whose PC moves to `pc`, nothing else changed. -/
def ran1 (s : State) (pc : Word) : Cpu := { s.cpu with pc := pc, r := nextR s.cpu.r }

/-- The Z80 after an instruction of two opcode fetches whose PC moves to `pc`, nothing else changed. -/
def ran2 (s : State) (pc : Word) : Cpu := { s.cpu with pc := pc, r := nextR (nextR s.cpu.r) }

/-- From `s` to `t` the registers become `c` and the page table `pg`; the clocks and the framebuffer are
those that the bus sequence `bus` leaves; everything else is unchanged: RAM, ROM, ULA, AY, disks, tape,
draws, configuration and host side, and so every byte of memory. -/
def RegsOnly (s t bus : State) (pg : Paging) (c : Cpu) : Prop :=
  t = { s with cpu := c, paging := pg, clock := bus.clock, framebuffer := bus.framebuffer }
    ∧ (∀ q, memGet t.ram q = memGet s.ram q) ∧ (∀ q, memGet t.rom q = memGet s.rom q)

/-- As `RegsOnly`, with `n` draws taken. -/
def RegsDrawn (s t bus : State) (n : Nat) (pg : Paging) (c : Cpu) : Prop :=
  RegsOnly { s with drawCount := s.drawCount + n } t bus pg c

/-- Bytes stored one after another through a page table. -/
def storeAll (pg : Paging) (ram : Memory) (ws : List (Word × Byte)) : Memory :=
  ws.foldl (fun m w => writeThrough pg m w.1 w.2) ram

/-- As `RegsOnly`, but the bytes `ws` are stored, in that order; every byte of RAM outside the places they
land at reads as before, ROM always does, and the last byte stored reads back. -/
def StoresOnly (s t bus : State) (pg : Paging) (c : Cpu) (ws : List (Word × Byte)) : Prop :=
  t = { s with cpu := c, paging := pg, clock := bus.clock, framebuffer := bus.framebuffer,
               ram := storeAll pg s.ram ws }
    ∧ (∀ q, memGet t.rom q = memGet s.rom q)
    ∧ (Memory.wf s.ram = true → ∀ q, (∀ w ∈ ws, storePlace pg w.1 ≠ some q) →
        memGet t.ram q = memGet s.ram q)
    ∧ (Memory.wf s.ram = true → ∀ w q, ws.getLast? = some w → storePlace pg w.1 = some q →
        memGet t.ram q = w.2)

/-- As `StoresOnly`, with `n` draws taken. -/
def StoresDrawn (s t bus : State) (n : Nat) (pg : Paging) (c : Cpu) (ws : List (Word × Byte)) : Prop :=
  StoresOnly { s with drawCount := s.drawCount + n } t bus pg c ws

/-- From `s` to `t` a port was read, `u` the state after the I/O cycle: the registers become `c` and the
page table `pg`; the clocks and the framebuffer are those of `bus`; the disk side and the tape are those
the read leaves; the bytes `ws` are stored; everything else is unchanged. -/
def ReadsPort (s t u bus : State) (pg : Paging) (c : Cpu) (ws : List (Word × Byte)) : Prop :=
  t = { s with cpu := c, paging := pg, clock := bus.clock, framebuffer := bus.framebuffer,
               disk := u.disk, tape := u.tape, ram := storeAll pg s.ram ws }
    ∧ (∀ q, memGet t.rom q = memGet s.rom q)
    ∧ (Memory.wf s.ram = true → ∀ q, (∀ w ∈ ws, storePlace pg w.1 ≠ some q) →
        memGet t.ram q = memGet s.ram q)

/-- From `s` to `t` a port was written, `u` the state after the I/O cycle: the registers become `c`; the
clocks and the framebuffer are those of `bus`; the page table, the ULA, the AY and the disk side are those
the write leaves; everything else is unchanged, and so is every byte of memory. -/
def WritesPort (s t u bus : State) (c : Cpu) : Prop :=
  t = { s with cpu := c, paging := u.paging, clock := bus.clock, framebuffer := bus.framebuffer,
               ula := u.ula, ay := u.ay, disk := u.disk }
    ∧ (∀ q, memGet t.ram q = memGet s.ram q) ∧ (∀ q, memGet t.rom q = memGet s.rom q)

/-- The outcome of an instruction: a next state that meets `p`. -/
def Completes (i : Instr) (s : State) (p : State → Prop) : Prop := ∃ t, exec i s = .next t ∧ p t

/-! ## Time -/

/-- How many opcode fetches an instruction makes: two where its encoding has a prefix (44 R462, 42 R374). -/
def opcodeFetches (i : Instr) : Nat :=
  if i.isWdCommand then 0
  else match i with
    | .ignoredPrefix _ => 1
    | i => if isPrefixByte ((encode i).headD 0) then 2 else 1

/-- `n` more T-states when a condition holds. -/
def plusIf (b : Bool) (n : Nat) : Nat := if b then n else 0

/-- A block instruction of BC goes round again (40 R271). -/
def bcRepeats (s : State) : Bool := s.cpu.bc - 1 != 0

/-- A block search goes round again (40 R275). -/
def searchRepeats (s : State) : Bool := bcRepeats s && s.cpu.a - readAfter2 s s.cpu.hl != 0

/-- A block I/O instruction goes round again (43 R434). -/
def bRepeats (s : State) : Bool := s.cpu.b - 1 != 0

/-- The T-states of an instruction without contention (70 R795). -/
def baseTime (i : Instr) (s : State) : Nat :=
  match i with
  | .nop | .halt | .di | .ei | .ldRS _ _ | .exAfAf | .exx | .exDeHl | .jpHl | .daa | .cpl | .ccf
  | .scf | .rlca | .rla | .rrca | .rra | .incR _ | .decR _ | .addAR _ | .adcAR _ | .subAR _
  | .sbcAR _ | .andAR _ | .xorAR _ | .orAR _ | .cpAR _ | .ignoredPrefix _ => 4
  | .ldSpHl | .incRr _ | .decRr _ => 6
  | .ldRN _ _ | .ldRMHl _ | .ldMHlS _ | .ldAMBc | .ldAMDe | .ldMBcA | .ldMDeA | .addAN _ | .adcAN _
  | .subAN _ | .sbcAN _ | .andAN _ | .xorAN _ | .orAN _ | .cpAN _ | .addAMHl | .adcAMHl | .subAMHl
  | .sbcAMHl | .andAMHl | .xorAMHl | .orAMHl | .cpAMHl => 7
  | .neg | .negDup _ | .im0 | .im1 | .im2 | .imDup _ | .noni _ | .nopEd7 _ | .ldHalves _ _ _
  | .jpIi _ | .incIhl _ _ | .decIhl _ _ | .addAIhl _ _ | .adcAIhl _ _ | .subAIhl _ _ | .sbcAIhl _ _
  | .andAIhl _ _ | .xorAIhl _ _ | .orAIhl _ _ | .cpAIhl _ _ | .rlcR _ | .rrcR _ | .rlR _ | .rrR _
  | .slaR _ | .sraR _ | .sllR _ | .srlR _ | .bitBR _ _ | .setBR _ _ | .resBR _ _ => 8
  | .ldAI | .ldAR | .ldIA | .ldRA => 9
  | .ldMHlN _ | .ldRrNn _ _ | .popQq _ | .jpNn _ | .jpCNn _ _ | .ret | .ldSpIi _ | .incIi _
  | .decIi _ => 10
  | .ldIhlN _ _ _ | .pushQq _ | .addHlRr _ | .incMHl | .decMHl | .rst _ | .inAN _ | .outNA _ => 11
  | .jr _ | .inRC _ | .inFC | .outCR _ | .outC0 | .bitBMHl _ => 12
  | .ldAMNn _ | .ldMNnA _ => 13
  | .ldIiNn _ _ | .popIi _ | .reti | .retn | .retnDup _ => 14
  | .pushIi _ | .adcHlRr _ | .sbcHlRr _ | .addIiRr _ _ | .rlcMHl | .rrcMHl | .rlMHl | .rrMHl
  | .slaMHl | .sraMHl | .sllMHl | .srlMHl | .setBMHl _ | .resBMHl _ => 15
  | .ldHlMNn _ | .ldMNnHl _ | .ldi | .ldd | .cpi | .cpd | .ini | .ind | .outi | .outd => 16
  | .callNn _ => 17
  | .rld | .rrd => 18
  | .ldRMIx _ _ _ | .ldMIxS _ _ _ | .ldMIxN _ _ _ | .exMSpHl | .addAMIx _ _ | .adcAMIx _ _
  | .subAMIx _ _ | .sbcAMIx _ _ | .andAMIx _ _ | .xorAMIx _ _ | .orAMIx _ _ | .cpAMIx _ _ => 19
  | .ldRrMNn _ _ | .ldMNnRr _ _ | .ldIiMNn _ _ | .ldMNnIi _ _ | .bitBMIx _ _ _
  | .bitBMIxDup _ _ _ _ => 20
  | .exMSpIi _ | .incMIx _ _ | .decMIx _ _ | .rlcMIx _ _ | .rrcMIx _ _ | .rlMIx _ _ | .rrMIx _ _
  | .slaMIx _ _ | .sraMIx _ _ | .sllMIx _ _ | .srlMIx _ _ | .rlcMIxCopy _ _ _ | .rrcMIxCopy _ _ _
  | .rlMIxCopy _ _ _ | .rrMIxCopy _ _ _ | .slaMIxCopy _ _ _ | .sraMIxCopy _ _ _
  | .sllMIxCopy _ _ _ | .srlMIxCopy _ _ _ | .setBMIx _ _ _ | .resBMIx _ _ _ | .setBMIxCopy _ _ _ _
  | .resBMIxCopy _ _ _ _ => 23
  | .jrC cc _ => 7 + plusIf (jrHolds s.cpu.f cc) 5
  | .djnz _ => 8 + plusIf (bRepeats s) 5
  | .callCNn cc _ => 10 + plusIf (condHolds s.cpu.f cc) 7
  | .retC cc => 5 + plusIf (condHolds s.cpu.f cc) 6
  | .ldir | .lddr => 16 + plusIf (bcRepeats s) 5
  | .cpir | .cpdr => 16 + plusIf (searchRepeats s) 5
  | .inir | .indr | .otir | .otdr => 16 + plusIf (bRepeats s) 5
  | .wdRestore _ _ _ | .wdSeek _ _ _ | .wdStep _ _ _ _ | .wdStepIn _ _ _ _ | .wdStepOut _ _ _ _
  | .wdReadSector _ _ _ _ | .wdWriteSector _ _ _ _ _ | .wdReadAddress _ | .wdReadTrack _
  | .wdWriteTrack _ | .wdForceInterrupt _ => 0

/-! ## Claims of one shape about several instructions -/

/-- One iteration of a block copy by `delta`: the byte at HL stored at DE, the pointers moved, BC counted
down; H and N 0, PV tells BC is not 0, S, Z and C kept. It repeats, with PC unmoved, Y and X drawn and 5
more T-states at the old DE, when it is a repeating form and BC is not 0; else Y and X come from v + A
(40 R269 to R273). -/
def copyClaim (delta : Word) (repeats : Bool) (i : Instr) (s : State) : Prop :=
  Completes i s fun t =>
    let v := readAfter2 s s.cpu.hl
    let bus := internal s.cpu.de 2 (memWrite s.cpu.de v (skipRead s.cpu.hl (fetchOp2 s)))
    let cpu := fun pc => (((ran2 s pc).setHl (s.cpu.hl + delta)).setDe (s.cpu.de + delta)).setBc
      (s.cpu.bc - 1)
    let f := fun y x => packF (flagS s.cpu.f) (flagZ s.cpu.f) y false x
      (decide (s.cpu.bc - 1 ≠ 0)) false (flagC s.cpu.f)
    if repeats = true ∧ s.cpu.bc - 1 ≠ 0 then
      StoresDrawn s t (internal s.cpu.de 5 bus) 2 (pagingAfter2 s)
        { cpu s.cpu.pc with
          f := f (Config.drawBool s.drawCount) (Config.drawBool (s.drawCount + 1)) }
        [(s.cpu.de, v)]
    else
      StoresOnly s t bus (pagingAfter2 s)
        { cpu (s.cpu.pc + 2) with
          f := f ((v + s.cpu.a).getLsbD 1) ((v + s.cpu.a).getLsbD 3) }
        [(s.cpu.de, v)]

/-- One iteration of a block search by `delta`: A compared with the byte at HL, HL moved, BC counted
down, A and C kept. It repeats, with PC unmoved, Y and X drawn and 5 more T-states at the old HL, when it
is a repeating form, BC is not 0 and the bytes differ; else Y and X come from res - H (40 R269, R274 to
R277). -/
def searchClaim (delta : Word) (repeats : Bool) (i : Instr) (s : State) : Prop :=
  Completes i s fun t =>
    let v := readAfter2 s s.cpu.hl
    let res := s.cpu.a - v
    let h := decide (s.cpu.a.toNat % 16 < v.toNat % 16)
    let k := res - (if h then 1 else 0)
    let bus := internal s.cpu.hl 5 (skipRead s.cpu.hl (fetchOp2 s))
    let cpu := fun pc => ((ran2 s pc).setHl (s.cpu.hl + delta)).setBc (s.cpu.bc - 1)
    let f := fun y x => packF (res.getLsbD 7) (res == 0) y h x (decide (s.cpu.bc - 1 ≠ 0)) true
      (flagC s.cpu.f)
    if repeats = true ∧ s.cpu.bc - 1 ≠ 0 ∧ res ≠ 0 then
      RegsDrawn s t (internal s.cpu.hl 5 bus) 2 (pagingAfter2 s)
        { cpu s.cpu.pc with
          f := f (Config.drawBool s.drawCount) (Config.drawBool (s.drawCount + 1)) }
    else
      RegsOnly s t bus (pagingAfter2 s)
        { cpu (s.cpu.pc + 2) with f := f (k.getLsbD 1) (k.getLsbD 3) }

/-- The five operand forms of an 8-bit ALU instruction: A and F take the result of `op` on A, the operand
and the old C; nothing else changes (41 R301). -/
def aluClaim (op : Byte → Byte → Bool → Byte × Byte) (fr : Reg8 → Instr) (fm : Instr)
    (fn : Byte → Instr) (fh : Idx → Half → Instr) (fx : Idx → Byte → Instr) (s : State) : Prop :=
  let out := fun (c : Cpu) (v : Byte) =>
    { c with a := (op s.cpu.a v (flagC s.cpu.f)).1, f := (op s.cpu.a v (flagC s.cpu.f)).2 }
  (∀ r, Completes (fr r) s fun t =>
    RegsOnly s t (fetchOp s) (pagingAfter1 s) (out (ran1 s (s.cpu.pc + 1)) (s.cpu.reg r)))
  ∧ (Completes fm s fun t =>
    RegsOnly s t (skipRead s.cpu.hl (fetchOp s)) (pagingAfter1 s)
      (out (ran1 s (s.cpu.pc + 1)) (readAfter1 s s.cpu.hl)))
  ∧ (∀ n, Completes (fn n) s fun t =>
    RegsOnly s t (fetchOpN s) (pagingAfter1 s) (out (ran1 s (s.cpu.pc + 2)) n))
  ∧ (s.cfg.undoc = .execute → ∀ i h, Completes (fh i h) s fun t =>
    RegsOnly s t (fetchOp2 s) (pagingAfter2 s) (out (ran2 s (s.cpu.pc + 2)) (s.cpu.half i h)))
  ∧ (∀ i d, Completes (fx i d) s fun t =>
    RegsOnly s t (skipRead (s.cpu.ea i d) (fetchIdx s)) (pagingAfter2 s)
      (out (ran2 s (s.cpu.pc + 3)) (readAfter2 s (s.cpu.ea i d))))

/-- The four forms of a CB rotate or shift: the result to the operand, and to the named register in a copy
form, S, Z, Y, X and PV (parity) of the result, H and N 0, C the bit shifted out (42 R374). -/
def rotateClaim (op : Rot) (undoc : Bool) (fr : Reg8 → Instr) (fm : Instr) (fx : Idx → Byte → Instr)
    (fc : Idx → Byte → Reg8 → Instr) (s : State) : Prop :=
  let res := fun v : Byte => (op v (flagC s.cpu.f)).1
  let f := fun v : Byte => szxyF (res v) false (parity (res v)) false (op v (flagC s.cpu.f)).2
  ((undoc = true → s.cfg.undoc = .execute) →
    (∀ r, Completes (fr r) s fun t => RegsOnly s t (fetchOp2 s) (pagingAfter2 s)
      { (ran2 s (s.cpu.pc + 2)).setReg r (res (s.cpu.reg r)) with f := f (s.cpu.reg r) })
    ∧ (let v := readAfter2 s s.cpu.hl
      Completes fm s fun t =>
        StoresOnly s t
          (memWrite s.cpu.hl (res v) (internal s.cpu.hl 1 (skipRead s.cpu.hl (fetchOp2 s))))
          (pagingAfter2 s) { ran2 s (s.cpu.pc + 2) with f := f v } [(s.cpu.hl, res v)])
    ∧ (∀ i d, let ea := s.cpu.ea i d
      let v := readAfter2 s ea
      Completes (fx i d) s fun t =>
        StoresOnly s t (memWrite ea (res v) (internal ea 1 (skipRead ea (fetchXcb s))))
          (pagingAfter2 s) { ran2 s (s.cpu.pc + 4) with f := f v } [(ea, res v)]))
  ∧ (s.cfg.undoc = .execute → ∀ i d r, let ea := s.cpu.ea i d
    let v := readAfter2 s ea
    Completes (fc i d r) s fun t =>
      StoresOnly s t (memWrite ea (res v) (internal ea 1 (skipRead ea (fetchXcb s))))
        (pagingAfter2 s) ({ ran2 s (s.cpu.pc + 4) with f := f v }.setReg r (res v)) [(ea, res v)])

/-- The eight conditions of the condition field (30 R190). -/
def condOf (f : Byte) : Cond → Prop
  | .nz => f.getLsbD 6 = false | .z => f.getLsbD 6 = true
  | .nc => f.getLsbD 0 = false | .c => f.getLsbD 0 = true
  | .po => f.getLsbD 2 = false | .pe => f.getLsbD 2 = true
  | .p => f.getLsbD 7 = false | .m => f.getLsbD 7 = true

/-- The condition of a `JR cc` field as one of the eight (43 R403). -/
def jrAsCond : JrCond → Cond
  | .nz => .nz | .z => .z | .nc => .nc | .c => .c

/-- F of a block I/O instruction: S and Z (and Y and X) from the new B, N from the byte, H and C from the
9-bit sum k, PV the parity of (k mod 8) XOR B (43 R433, R440). -/
def blockIoFlags (b v : Byte) (k : Nat) : Byte :=
  packF (b.getLsbD 7) (b == 0) (b.getLsbD 5) (decide (255 < k)) (b.getLsbD 3)
    (parity (byteOf (k % 8) ^^^ b)) (v.getLsbD 7) (decide (255 < k))

/-- F of an iteration that repeats: H, PV, Y and X are the draws from draw `n` on (43 R434). -/
def blockIoDrawn (b v : Byte) (k n : Nat) : Byte :=
  packF (b.getLsbD 7) (b == 0) (Config.drawBool (n + 2)) (Config.drawBool n)
    (Config.drawBool (n + 3)) (Config.drawBool (n + 1)) (v.getLsbD 7) (decide (255 < k))

/-- One iteration of a block input by `delta`: the port BC read with B before its decrement, the byte
stored at HL, HL moved, B counted down; a repeating form with B not 0 leaves PC, draws four flags and
takes 5 more T-states at the old HL (43 R433 to R436). -/
def blockInClaim (delta : Word) (deltaC : Byte) (repeats : Bool) (i : Instr) (s : State) : Prop :=
  Completes i s fun t =>
    let v := ioRead s.cpu.bc (internalIr 1 (fetchOp2 s))
    let bus := memWrite s.cpu.hl v.1 v.2
    let b := s.cpu.b - 1
    let k := v.1.toNat + (s.cpu.c + deltaC).toNat
    let cpu := fun pc => { (ran2 s pc).setHl (s.cpu.hl + delta) with b := b }
    if repeats = true ∧ b ≠ 0 then
      ReadsPort { s with drawCount := s.drawCount + 4 } t v.2 (internal s.cpu.hl 5 bus)
        (pagingAfter2 s) { cpu s.cpu.pc with f := blockIoDrawn b v.1 k s.drawCount }
        [(s.cpu.hl, v.1)]
    else
      ReadsPort s t v.2 bus (pagingAfter2 s)
        { cpu (s.cpu.pc + 2) with f := blockIoFlags b v.1 k } [(s.cpu.hl, v.1)]

/-- One iteration of a block output by `delta`: the byte at HL written to port BC with B after its
decrement, HL moved; a repeating form with B not 0 leaves PC, draws four flags and takes 5 more T-states
at BC (43 R440 to R443). -/
def blockOutClaim (delta : Word) (repeats : Bool) (i : Instr) (s : State) : Prop :=
  Completes i s fun t =>
    let v := readAfter2 s s.cpu.hl
    let b := s.cpu.b - 1
    let port := mkWord b s.cpu.c
    let u := ioWrite port v (skipRead s.cpu.hl (internalIr 1 (fetchOp2 s)))
    let hl := s.cpu.hl + delta
    let k := v.toNat + (loByte hl).toNat
    let cpu := fun pc => { (ran2 s pc).setHl hl with b := b }
    if repeats = true ∧ b ≠ 0 then
      WritesPort { s with drawCount := s.drawCount + 4 } t u (internal port 5 u)
        { cpu s.cpu.pc with f := blockIoDrawn b v k s.drawCount }
    else
      WritesPort s t u u { cpu (s.cpu.pc + 2) with f := blockIoFlags b v k }

/-- The Betadisk interface takes an access: BETADISK, TR-DOS paged in, and one of its five ports
(20 R140, R141). -/
def betaTakes (s : State) (p : Word) : Prop :=
  s.cfg.betadisk = true ∧ s.paging.trdosActive = true
    ∧ loByte p ∈ [0x1F, 0x3F, 0x5F, 0x7F, 0xFF]

/-- The unit time of framebuffer pixel (x, y) (45 R511), for a machine whose SCREEN_START the table gives. -/
def unitTime (c : Cfg) (x y : Nat) : Int :=
  let g := geometry c.resMode
  let ac := archConfig c
  let sl : Int := (y : Int) - g.top
  let dx : Int := (x : Int) - g.left
  if 0 ≤ sl ∧ sl < 192 ∧ 0 ≤ dx ∧ dx < 256 then ac.screenStart + sl * ac.tLine + 4 * (dx / 8)
  else ac.screenStart + sl * ac.tLine + Int.fdiv dx 2

/-- The colour a pixel shows when its unit is painted (45 R513, R514, R519). -/
def pixelShows (s : State) (x y : Nat) : BitVec 4 :=
  let g := geometry s.cfg.resMode
  if g.top ≤ y ∧ y < g.top + 192 ∧ g.left ≤ x ∧ x < g.left + 256 then
    let sl := y - g.top
    let dx := x - g.left
    let bank := screenBank s.cfg s.paging.port7FFD
    let b := memGet s.ram (ramPlace bank (sl / 64 * 2048 + sl % 8 * 256 + sl / 8 % 8 * 32 + dx / 8))
    let a := memGet s.ram (ramPlace bank (0x1800 + sl / 8 * 32 + dx / 8))
    let on := b.getLsbD (7 - dx % 8)
    let on := if a.getLsbD 7 = true ∧ s.ula.flashPhase = true then !on else on
    BitVec.ofNat 4 ((if on then a.toNat % 8 else a.toNat / 8 % 8) + 8 * (a.toNat / 64 % 2))
  else BitVec.ofNat 4 s.ula.borderColour.toNat

/-- A WD1793 command as an instruction, its command byte `b`: the controller is caught up, then the
command is ignored while held in reset or (but for FORCE INTERRUPT) while another runs; else it starts:
BUSY set and every latched error cleared, a Type I command in T1_DECIDE with the registers its kind sets,
a Type II or III command ended at once on a unit that is not ready or, writing, on a protected disk, else
settling. No Z80 state, no memory and no other device changes (47 R602, R631, R651; 30 R205). -/
def wdClaim (i : Instr) (b : Byte) (s : State) : Prop :=
  encode i = [b] ∧ Completes i s fun t =>
    let d := s.disk.catchUp s.cfg s.clock.absTime
    let w := d.wd
    let started := { w with
      cmdReg := b, intrq := false, drq := false, lostData := false, statusReg := 0x01, idleRevs := 0,
      revCount := 0, markShift := 0, stepState := 0, byteIndex := 0, intCond := 0,
      idCapture := false, fastXfer := false, parser := TrackParser.reset }
    let kind := b.toNat / 16
    let idle := w.heldInReset = false ∧ w.state = .idle ∧ kind ≠ 13
    let writes := b.toNat / 32 = 5 ∨ kind = 15
    t = { s with disk := t.disk } ∧ t.disk.drives = d.drives
    ∧ (w.heldInReset = true ∨ (w.state ≠ .idle ∧ kind ≠ 13) → t.disk.wd = w)
    ∧ (w.heldInReset = false → kind = 13 →
        t.disk.wd = { w with
          statusReg := if w.state = .idle then 0x00 else w.statusReg &&& 0xFE,
          statusType := if w.state = .idle then .typeI else w.statusType,
          drq := decide (w.state = .idle) && w.drq, state := .idle,
          intCond := b.extractLsb' 0 4, cmdReg := b, intrq := b.getLsbD 3, idleRevs := 0 })
    ∧ (idle → kind < 8 →
        t.disk.wd = { started with
          statusType := .typeI, headLoaded := b.getLsbD 3,
          trackReg := if kind = 0 then 0xFF else w.trackReg,
          dataReg := if kind = 0 then 0x00 else w.dataReg,
          dsr := if kind = 0 then 0x00 else if kind = 1 then w.dataReg else w.dsr,
          dire := if kind = 4 ∨ kind = 5 then true else if 6 ≤ kind then false else w.dire,
          state := .t1Decide })
    ∧ (idle → 8 ≤ kind → d.ready = false →
        t.disk.wd = { started with statusType := .typeIIIII, statusReg := 0x00, intrq := true,
                                   state := .idle })
    ∧ (idle → d.ready = true → writes → d.drive.writeProtected = true →
        t.disk.wd = { started with statusType := .typeIIIII, statusReg := 0x40, intrq := true,
                                   state := .idle })
    ∧ (idle → 8 ≤ kind → d.ready = true → (¬ writes ∨ d.drive.writeProtected = false) →
        t.disk.wd = { started with
          statusType := .typeIIIII, state := .t2Settle,
          delay := if s.cfg.fastMode = true ∨ (b.getLsbD 2 = false ∧ w.headLoaded = true) then 0
                   else msToSteps s.cfg 15 })

/-! ## The WD1793's byte steps -/

/-- The controller after the index bookkeeping of byte step `k` (47 R620, R632). -/
def indexed (k : Nat) (d : Disk) : Wd :=
  if d.ready = true ∧ k % 6250 = 0 then
    { d.wd with
      revCount := d.wd.revCount + 1,
      idleRevs := d.wd.idleRevs + (if d.wd.state = .idle then 1 else 0),
      headLoaded := d.wd.headLoaded && decide (d.wd.state = .idle → d.wd.idleRevs + 1 < 15),
      intrq := d.wd.intrq || d.wd.intCond.getLsbD 2 }
  else d.wd

/-- Byte step `k` leaves these drives and this controller, with the byte under the head shifted into its
mark register (47 R622, R632). -/
def byteStepGives (c : Cfg) (k : Nat) (d : Disk) (drives : Vector Drive 4) (w : Wd) : Prop :=
  d.byteStep c k =
    { drives := drives,
      wd := { w with
        markShift :=
          BitVec.ofNat 24 (d.wd.markShift.toNat * 256 + (d.trackByteAt (k % 6250)).toNat) } }

/-- Byte steps `k + 1` to `k + n`, one after another. -/
def byteStepsFrom (c : Cfg) (k n : Nat) (d : Disk) : Disk :=
  (List.range n).foldl (fun e j => e.byteStep c (k + 1 + j)) d

/-- A byte step of a Type I command: the decision and the step of the head, the wait after it, and the
settling before a verify (47 R639). -/
def wdTypeIClaim (c : Cfg) (k : Nat) (d : Disk) : Prop :=
  let w := indexed k d
  let gives := byteStepGives c k d
  let head := d.drive.headTrack
  let seeks := w.cmdReg.toNat < 0x20
  let verifyOrEnd := fun x : Wd =>
    if x.cmdReg.getLsbD 2 = true then
      { x with headLoaded := true, delay := if c.fastMode then 0 else msToSteps c 15, state := .t1Settle }
    else x.finish
  let dire := if seeks then decide (w.trackReg.toNat < w.dsr.toNat) else w.dire
  (w.state = .t1Decide →
    if seeks ∧ w.trackReg = w.dsr then
      gives d.drives
        (if w.cmdReg.toNat < 0x10 ∧ head ≠ 0 then { w with statusReg := w.statusReg ||| 0x10 }.finish
         else verifyOrEnd w)
    else if ¬ seeks ∧ w.stepState = 1 then gives d.drives (verifyOrEnd w)
    else if dire = false ∧ head = 0 then
      gives d.drives (verifyOrEnd { w with dire := dire, trackReg := 0 })
    else
      gives (d.drives.set d.wd.unit
          { d.drive with headTrack := if dire then min (head + 1) 83 else head - 1 })
        { w with
          dire := dire,
          trackReg :=
            if seeks ∨ w.cmdReg.getLsbD 4 = true then
              (if dire then w.trackReg + 1 else w.trackReg - 1)
            else w.trackReg,
          stepState := 1, delay := msToSteps c (wdStepMs c.wdRateRow (w.cmdReg.toNat % 4)),
          state := .t1StepWait })
  ∧ (w.state = .t1StepWait → gives d.drives
      { w with delay := w.delay - 1, state := if w.delay ≤ 1 then .t1Decide else .t1StepWait })
  ∧ (w.state = .t1Settle → gives d.drives
      (if w.delay ≤ 1 then
        { w with delay := 0, revCount := 0, idCapture := false, state := .t1Verify }
       else { w with delay := w.delay - 1 }))

/-- A byte step of the ID search and of the reading of an ID field: the search fails on a unit that is not
ready and after five index pulses, and an ID field ends it where it matches (47 R637, R639, R646, R648; the
capture flag of T1_VERIFY: log 15). -/
def wdSearchClaim (c : Cfg) (k : Nat) (d : Disk) : Prop :=
  let w := indexed k d
  let b := d.trackByteAt (k % 6250)
  let gives := byteStepGives c k d d.drives
  let search := fun found : Wd =>
    if d.ready = false ∨ 5 ≤ w.revCount then { w with statusReg := w.statusReg ||| 0x10 }.finish
    else if w.markShift = 0xA1A1A1 ∧ b = 0xFE then found
    else w
  let stored := { w with idBuf := w.idBuf.setIfInBounds w.byteIndex b, byteIndex := w.byteIndex + 1 }
  (w.state = .t1Verify → w.idCapture = false → gives (search { w with byteIndex := 0, idCapture := true }))
  ∧ (w.state = .t1Verify → w.idCapture = true → gives
      (if w.byteIndex = 5 then
        (if stored.idBuf[0] = w.trackReg then { stored with idCapture := false }.finish
         else { stored with idCapture := false })
       else stored))
  ∧ (w.state = .t2Search → gives (search
      { w with byteIndex := 0, state := if w.cmdReg.toNat / 16 = 12 then .t3Ra else .t2Id }))
  ∧ (w.state = .t2Id → gives
      (if w.byteIndex = 5 then
        (if stored.idBuf[0] = w.trackReg ∧ stored.idBuf[2] = w.sectorReg
            ∧ (w.cmdReg.getLsbD 1 = true →
                stored.idBuf[1].toNat = if w.cmdReg.getLsbD 3 then 1 else 0) then
          (if w.cmdReg.toNat / 32 = 5 then
            { stored with drq := true, stepState := 0, state := .t2Wgap }
           else { stored with stepState := 0, state := .t2Dam })
         else { stored with state := .t2Search })
       else stored))

/-- A disk with byte `i` of sector `r` of the track under the head set to `v`; the same disk where the track
is not formatted, the image is no TRD or has no such byte (47 R611, R647, R650; log 16). -/
def sectorWritten (r i : Nat) (v : Byte) (d : Disk) : Vector Drive 4 :=
  let dr := d.drive
  let off := ((dr.headTrack * dr.sides + d.wd.side) * 16 + (r - 1)) * 256 + i
  if d.formatted = true ∧ dr.kind = .trd ∧ 1 ≤ r ∧ r ≤ 16 ∧ off < dr.image.size then
    d.drives.set d.wd.unit { dr with image := { dr.image with cells := memSet dr.image.cells off v } }
  else d.drives

/-- A byte step of a Type II command past its search, and the settling it shares with Type III
(47 R635, R636, R646, R647, R653, R654; the bytes no sector gives: log 16; the request for the next byte:
log 29). -/
def wdSectorClaim (c : Cfg) (k : Nat) (d : Disk) : Prop :=
  let w := indexed k d
  let b := d.trackByteAt (k % 6250)
  let gives := byteStepGives c k d
  let sector := w.sectorReg.toNat
  let writes := w.cmdReg.toNat / 32 = 5
  (w.state = .t2Settle → gives d.drives
    (if w.delay ≤ 1 then
      let x := { w with delay := 0, headLoaded := true, revCount := 0 }
      if w.cmdReg.toNat / 16 = 14 then { x with state := .t3RtIndex }
      else if w.cmdReg.toNat / 16 = 15 then { x with drq := true, stepState := 0, state := .t3WtDrq }
      else { x with state := .t2Search }
     else { w with delay := w.delay - 1 }))
  ∧ (w.state = .t2Dam → gives d.drives
      (if w.markShift = 0xA1A1A1 ∧ 0xF8 ≤ b.toNat ∧ b.toNat ≤ 0xFB then
        { w with stepState := w.stepState + 1, byteIndex := 0, state := .t2Read }
       else
        { w with stepState := w.stepState + 1,
                 state := if 43 ≤ w.stepState then .t2Search else .t2Dam }))
  ∧ (w.state = .t2Read →
      let v :=
        if w.fastXfer = false then b
        else if d.formatted = true ∧ 1 ≤ sector ∧ sector ≤ 16 then
          sectorData d.drive d.cyl d.wd.side sector w.byteIndex
        else Config.noSectorByte sector w.byteIndex
      let x := { w.deliver v with byteIndex := w.byteIndex + 1 }
      gives d.drives (if w.byteIndex = 255 then { x with stepState := 0, state := .t2Crc } else x))
  ∧ (w.state = .t2Crc →
      let x := { w with stepState := w.stepState + 1 }
      let next := (w.sectorReg + 1).toNat
      let y := { x with sectorReg := w.sectorReg + 1 }
      gives d.drives
        (if w.stepState ≠ 1 then x
         else if w.lostData = true ∨ w.cmdReg.getLsbD 4 = false then x.finish
         else if c.fastMode = false then { y with revCount := 0, state := .t2Search }
         else if d.formatted = true ∧ 1 ≤ next ∧ next ≤ 16 then
          { y with byteIndex := 0, fastXfer := true, drq := decide writes || w.drq,
                   state := if writes then .t2Write else .t2Read }
         else { y with statusReg := w.statusReg ||| 0x10 }.finish))
  ∧ (w.state = .t2Wgap →
      let x := { w with stepState := w.stepState + 1 }
      gives d.drives
        (if w.stepState = 10 ∧ w.drq = true then
          { x with lostData := true, statusReg := w.statusReg ||| 0x04 }.finish
         else if w.stepState = 21 then { x with byteIndex := 0, state := .t2Write }
         else x))
  ∧ (w.state = .t2Write →
      let r := if w.fastXfer then sector else w.idBuf[2].toNat
      let x := { w.take.2 with byteIndex := w.byteIndex + 1 }
      gives (sectorWritten r w.byteIndex w.take.1 d)
        (if w.byteIndex = 255 then { x with stepState := 0, state := .t2Crc } else { x with drq := true }))

/-- A byte step of a Type III command past its settling and search (47 R648 to R650; the parser: log 15). -/
def wdTrackClaim (c : Cfg) (k : Nat) (d : Disk) : Prop :=
  let w := indexed k d
  let b := d.trackByteAt (k % 6250)
  let gives := byteStepGives c k d
  let pulse := d.ready = true ∧ k % 6250 = 0
  let delivered := fun i => { w.deliver b with byteIndex := i + 1, state := .t3Rt }
  let written := fun (p : TrackParser) (i : Nat) =>
    let v := w.take.1
    let bytes :=
      if v = 0xF5 then [0xA1] else if v = 0xF6 then [0xC2] else if v = 0xF7 then [0x00, 0x00] else [v]
    let e := bytes.foldl Disk.feed { d with wd := { w.take.2 with drq := true, parser := p } }
    gives e.drives
      (let x := { e.wd with byteIndex := i + 1, state := .t3Wt }
       if i + 1 = 6250 then x.finish else x)
  (w.state = .t3Ra →
    let x := { w.deliver b with
      idBuf := w.idBuf.setIfInBounds w.byteIndex b, byteIndex := w.byteIndex + 1 }
    gives d.drives (if w.byteIndex = 5 then { x with sectorReg := x.idBuf[0] }.finish else x))
  ∧ (w.state = .t3RtIndex → gives d.drives (if pulse then delivered 0 else w))
  ∧ (w.state = .t3Rt → gives d.drives
      (if w.byteIndex + 1 = 6250 then (delivered w.byteIndex).finish else delivered w.byteIndex))
  ∧ (w.state = .t3WtDrq →
      let x := { w with stepState := w.stepState + 1 }
      gives d.drives
        (if w.stepState ≠ 2 then x
         else if w.drq = true then { x with lostData := true, statusReg := w.statusReg ||| 0x04 }.finish
         else { x with state := .t3WtIndex }))
  ∧ (w.state = .t3WtIndex → if pulse then written TrackParser.reset 0 else gives d.drives w)
  ∧ (w.state = .t3Wt → written w.parser w.byteIndex)

/-- One byte of a WRITE TRACK stream at the parser: it enters the parser's mark register, and is an ID byte
kept, a data byte stored, an address mark or discarded; no other register of the controller changes
(47 R650; log 15). -/
def parserClaim (d : Disk) (v : Byte) : Prop :=
  let p := d.wd.parser
  let e := d.feed v
  let marked := p.mark = 0xA1A1A1
  let inData := p.idLeft = 0 ∧ 0 < p.dataLeft
  e.wd = { d.wd with parser := e.wd.parser }
  ∧ e.wd.parser.mark = BitVec.ofNat 24 (p.mark.toNat * 256 + v.toNat)
  ∧ e.drives = (if inData then sectorWritten p.idField[2].toNat (256 - p.dataLeft) v d else d.drives)
  ∧ e.wd.parser.idField =
      (if p.idLeft = 0 then p.idField else p.idField.setIfInBounds (4 - p.idLeft) v)
  ∧ e.wd.parser.idLeft =
      (if p.idLeft = 0 ∧ p.dataLeft = 0 ∧ marked ∧ v = 0xFE then 4 else p.idLeft - 1)
  ∧ e.wd.parser.dataLeft =
      (if inData then p.dataLeft - 1
       else if p.idLeft = 0 ∧ marked ∧ 0xF8 ≤ v.toNat ∧ v.toNat ≤ 0xFB then 256
       else p.dataLeft)

/-! ## AY samples -/

/-- amp of a channel (46 R570). -/
def ampOf (vols : List Nat) (ay : Ay) (c : Fin 3) : Nat :=
  let mixer := ay.regs[7]
  let vr := (ay.reg (8 + c.val)).toNat
  let level :=
    if 16 ≤ vr % 32 then envLevel ay.regs[13].toNat ay.envPos.toNat
    else if vr % 16 = 0 then 0 else 2 * (vr % 16) + 1
  if (ay.toneBit[c] = true ∨ mixer.getLsbD c.val = true)
      ∧ (ay.noiseBit = true ∨ mixer.getLsbD (3 + c.val) = true) then vols.getD level 0
  else 0

/-- The amplitudes of the three channels summed over the next `n` chip steps (46 R571). -/
def ampSum (vols : List Nat) (ay : Ay) (n : Nat) : Nat :=
  ((List.range n).map fun j =>
    let a := Ay.chipStep^[j + 1] ay
    ampOf vols a 0 + ampOf vols a 1 + ampOf vols a 2).sum

/-! ## Images and host records -/

/-- The byte a list of (offset, byte) pairs gives an offset: the last one listed, else 0x00. -/
def lastListed (cells : List Host.Cell) (o : Nat) : Byte :=
  ((cells.filter fun c => c.1 = o).getLast?.map fun c => c.2).getD 0x00

/-- A sector count of an SCL directory (47 R612). -/
def sclFileSectors (img : Image) (i : Nat) : Nat := (img.byte (9 + 14 * i + 13)).toNat

/-- The logical sector where SCL file `i` starts, and, for the file count, the first free one (47 R613). -/
def sclStart (img : Image) (i : Nat) : Nat := 16 + ((List.range i).map (sclFileSectors img)).sum

/-- An image that begins with the SCL magic (47 R612). -/
abbrev SclImage (img : Image) : Prop :=
  8 ≤ img.size
    ∧ (List.range 8).map img.byte = [0x53, 0x49, 0x4E, 0x43, 0x4C, 0x41, 0x49, 0x52]

/-- The record a valid image makes of a unit, none for an invalid one: an SCL image by its directory, any
other by its TRD type byte (47 R610 to R612, R670). -/
def mounted (img : Image) (wp : Bool) (head : Nat) : Option Drive :=
  let n := (img.byte 8).toNat
  let ty := (img.byte 2275).toNat
  let tracks := if ty = 0x16 ∨ ty = 0x18 then 80 else 40
  let sides := if ty = 0x16 ∨ ty = 0x17 then 2 else 1
  if SclImage img then
    if n ≤ 128 ∧ 9 + 14 * n ≤ img.size then
      some { available := true, kind := .scl, tracks := 80, sides := 2, image := img,
             writeProtected := true, headTrack := head, sclTrack0 := some (sclTrack0Of img) }
    else none
  else if 2276 ≤ img.size ∧ 0x16 ≤ ty ∧ ty ≤ 0x19 then
    some { available := true, kind := .trd, tracks := tracks, sides := sides,
           image := { img with size := max img.size (tracks * sides * 4096) },
           writeProtected := wp, headTrack := head, sclTrack0 := none }
  else none

/-- The tape with an image in place, stopped at its start at time `now` (48 R715). -/
def rewound (image : Option Image) (now : Nat) : Tape :=
  { status := .stopped, image := image, phase := .sync, pos := 0, blockEnd := 0, curByte := 0x00,
    bitMask := 0x80, pulseCount := 0, hdrPulses := 0, bitHalf := false, pulseLen := 2168,
    anchor := now, earBit := false }

end Sys2Proof.Machine
end

