-- ==== Sys2Proof/Certificates/Slice0/Obligations.lean ====
section
/-! DEFINITION. The statements for the provers. Each docstring names the rules it formalises. -/

open Sys2Proof Sys2Proof.Machine

/-! ## Encoding -/

/-- The decoder reads back what the encoder writes, for every well-formed instruction and whatever bytes
follow; an ignored prefix is read before any unaffected byte; a WD1793 command is read back from its
command byte (30 R180 to R197, R205). A command as an instruction is the model's form (log 12). -/
def Obligations.DecodeEncodeRoundTrip : Prop :=
  (∀ i : Instr, i.wf = true → i.isWdCommand = false → (∀ x, i ≠ .ignoredPrefix x) →
      ∀ rest, decode (encode i ++ rest) = .ok (i, rest))
    ∧ (∀ (x : Idx) (op : Byte) (rest : List Byte), ddAffected op = false →
        decode (encode (.ignoredPrefix x) ++ op :: rest) = .ok (.ignoredPrefix x, op :: rest))
    ∧ (∀ i : Instr, i.isWdCommand = true → ∃ b, encode i = [b] ∧ decodeWdCommand b = i)

/-- Any four bytes decode to a well-formed Z80 instruction of one to four bytes, its length the encoder's
(30 R198, R199). -/
def Obligations.DecodeIsTotal : Prop :=
  ∀ (b0 b1 b2 b3 : Byte) (rest : List Byte), ∃ i n,
    decode (b0 :: b1 :: b2 :: b3 :: rest) = .ok (i, (b0 :: b1 :: b2 :: b3 :: rest).drop n)
      ∧ 1 ≤ n ∧ n ≤ 4 ∧ n = (encode i).length ∧ i.wf = true ∧ i.isWdCommand = false

/-- Words written out from the encodings of 30_encoding.md decode to the instructions they stand for. -/
def Obligations.SampleWordsDecode : Prop :=
  decode [0x78] = .ok (.ldRS .a .b, [])
    ∧ decode [0x0E, 0x7F] = .ok (.ldRN .c 0x7F, [])
    ∧ decode [0x31, 0x00, 0xFF] = .ok (.ldRrNn .sp 0xFF00, [])
    ∧ decode [0xF5] = .ok (.pushQq .af, [])
    ∧ decode [0x38, 0xEE] = .ok (.jrC .c 0xEE, [])
    ∧ decode [0xCD, 0x00, 0x81] = .ok (.callNn 0x8100, [])
    ∧ decode [0xD7] = .ok (.rst 2, [])
    ∧ decode [0xCB, 0x12] = .ok (.rlR .d, [])
    ∧ decode [0xCB, 0xDE] = .ok (.setBMHl 3, [])
    ∧ decode [0xED, 0x52] = .ok (.sbcHlRr .de, [])
    ∧ decode [0xED, 0xB0] = .ok (.ldir, [])
    ∧ decode [0xED, 0x78] = .ok (.inRC .a, [])
    ∧ decode [0xED, 0x64] = .ok (.negDup 4, [])
    ∧ decode [0xDD, 0x7E, 0xFE] = .ok (.ldRMIx .ix .a 0xFE, [])
    ∧ decode [0xFD, 0x26, 0x5B] = .ok (.ldIhlN .iy .ih 0x5B, [])
    ∧ decode [0xDD, 0xCB, 0x01, 0x87] = .ok (.resBMIxCopy .ix 0 0x01 .a, [])
    ∧ decodeWdCommand 0x5B = .wdStepIn true true false 3
    ∧ decodeWdCommand 0x80 = .wdReadSector false false false false

/-! ## The step -/

/-- When the bytes at PC decode and the boundary is an instruction's, a step is `exec` of the decoded
instruction, after `eiBlock` is cleared (44 R461, R463). `frameBoundary` and the host queue are the model's
(log 9). -/
def Obligations.StepRunsDecodedInstruction : Prop :=
  ∀ (s : State) (i : Instr) (rest : List Byte),
    cfgAdmitted s.cfg = true → (s.frameBoundary = false ∨ s.hostQueue = []) →
    s.clock.tstates < (archConfig s.cfg).tFrame → s.cpu.nmiPending = false → acceptsInt s = false →
    s.cpu.halted = false → decode (peekBytes s) = .ok (i, rest) →
    step s = exec i s.inFrame.clearEiBlock

/-- Under UNDOC_OPCODES = refuse every undocumented or undefined form is refused with the address PC;
every other instruction, and under `execute` every instruction, answers a next state: no instruction
faults (30 R200, 44 R461, 60 R730, R732; the form of the
refusal: log 19). -/
def Obligations.OnlyUndocumentedFormsAreRefused : Prop :=
  (∀ (i : Instr) (s : State), isUndocumented i = true → s.cfg.undoc = .refuse →
      exec i s = .refused (.undocumentedOpcode s.cpu.pc))
    ∧ (∀ (i : Instr) (s : State), (isUndocumented i = false ∨ s.cfg.undoc = .execute) →
        ∃ t, exec i s = .next t)

/-- A step of an admitted configuration answers a next state, or refuses an undocumented form under
UNDOC_OPCODES = refuse, and nothing else (30 R199, 44 R461, R475, 60 R730, R732). Which configurations are
admitted, and that there is no fault, is the model's form of the rules (log 18, log 19). -/
def Obligations.StepNeverStopsOtherwise : Prop :=
  ∀ s : State, cfgAdmitted s.cfg = true →
    SafeStep s ∨ (s.cfg.undoc = .refuse ∧ step s = .refused (.undocumentedOpcode s.cpu.pc))

/-- Which step of the frame loop is taken at a boundary: NMI first, then the maskable interrupt, then a
halted step, then an instruction; the maskable interrupt needs the window, IFF1 and no `eiBlock`, and is
never accepted at the boundary after EI or an ignored prefix (44 R463, R465, 60 R740, R750). `frameBoundary`
and the host queue are the model's (log 9). -/
def Obligations.BoundaryPriority : Prop :=
  (∀ s : State, cfgAdmitted s.cfg = true → (s.frameBoundary = false ∨ s.hostQueue = []) →
      s.clock.tstates < (archConfig s.cfg).tFrame →
      (s.cpu.nmiPending = true → step s = .next (acceptNmi s.inFrame))
        ∧ (s.cpu.nmiPending = false → acceptsInt s = true → step s = .next (acceptInt s.inFrame))
        ∧ (s.cpu.nmiPending = false → acceptsInt s = false → s.cpu.halted = true →
            step s = .next (haltedStep s.inFrame)))
    ∧ (∀ s : State, acceptsInt s = true ↔
        s.clock.tstates < (archConfig s.cfg).intLen ∧ s.cpu.iff1 = true ∧ s.cpu.eiBlock = false)
    ∧ (∀ (s t : State) (x : Idx), (exec .ei s = .next t ∨ exec (.ignoredPrefix x) s = .next t) →
        acceptsInt t = false)

/-- The halted step: `eiBlock` cleared, the byte at PC fetched and ignored, R counted, PC unchanged, the
time of a fetch at PC; nothing else changes (44 R464). -/
def Obligations.HaltedStepFetchesAndIgnores : Prop :=
  ∀ s : State,
    RegsOnly s (haltedStep s) (fetch s.cpu.pc s) (fetchPaging s.cfg s.paging s.cpu.pc)
      { s.cpu with eiBlock := false, r := nextR s.cpu.r }
    ∧ (haltedStep s).clock.tstates = s.clock.tstates + 4
        + if contendedAt s.cfg (fetchPaging s.cfg s.paging s.cpu.pc) s.cpu.pc
          then delayAt s.cfg s.clock.tstates else 0

/-- Acceptance of a maskable interrupt and of an NMI: what is saved, the flip-flops, PC at the handler, and
the bus sequence: an acknowledge of 7 or 5 T-states, the push of PC and, in mode 2, the read of the
handler's address; so the time without contention too (60 R742 to R745). -/
def Obligations.InterruptEntry : Prop :=
  (∀ s : State,
    let t := acceptInt s
    let sp := s.cpu.sp
    let ws := [(sp - 1, hiByte s.cpu.pc), (sp - 2, loByte s.cpu.pc)]
    let ram := storeAll s.paging s.ram ws
    let v := mkWord s.cpu.i 0xFF
    let pushed := memWrite (sp - 2) (loByte s.cpu.pc) (memWrite (sp - 1) (hiByte s.cpu.pc) (advance 7 s))
    let handler :=
      if s.cpu.im = .im2 then
        mkWord (readThrough s.paging s.rom ram (v + 1)) (readThrough s.paging s.rom ram v)
      else 0x0038
    StoresOnly s t (if s.cpu.im = .im2 then skipRead (v + 1) (skipRead v pushed) else pushed) s.paging
      { s.cpu with halted := false, iff1 := false, iff2 := false, r := nextR s.cpu.r, sp := sp - 2,
                   pc := handler } ws
      ∧ ((archConfig s.cfg).hasContention = false →
          t.clock.absTime = s.clock.absTime + if s.cpu.im = .im2 then 19 else 13))
    ∧ (∀ s : State,
      let t := acceptNmi s
      let sp := s.cpu.sp
      StoresOnly s t
        (memWrite (sp - 2) (loByte s.cpu.pc) (memWrite (sp - 1) (hiByte s.cpu.pc) (advance 5 s))) s.paging
        { s.cpu with nmiPending := false, eiBlock := false, halted := false, iff1 := false,
                     r := nextR s.cpu.r, sp := sp - 2, pc := 0x0066 }
        [(sp - 1, hiByte s.cpu.pc), (sp - 2, loByte s.cpu.pc)]
        ∧ ((archConfig s.cfg).hasContention = false → t.clock.absTime = s.clock.absTime + 11))

/-- The end of a frame: the devices caught up to `absTime`, the frame's samples out, `tstates` reduced by
T_FRAME, the frame and flash counters moved on, and nothing else (44 R470, 45 R522); a frame is LINES lines
of T_LINE on the machines whose table the spec gives (00 R10). That the end is a step of its own, after which
the machine stands at a frame boundary, is the model's choice (log 9, log 27). -/
def Obligations.EndOfFrameBookkeeping : Prop :=
  (∀ c : Cfg, c.arch ≠ .tk →
    (archConfig c).tFrame = rasterLines c * (archConfig c).tLine
      ∧ rasterLines c = (match c.arch with | .spec48 => 312 | .pentagon => 320 | _ => 311)) ∧
  ∀ s : State, cfgAdmitted s.cfg = true → (s.frameBoundary = false ∨ s.hostQueue = []) →
    (archConfig s.cfg).tFrame ≤ s.clock.tstates →
    step s = .next
      { s with
        disk := s.disk.catchUp s.cfg s.clock.absTime,
        tape := s.tape.catchUp s.cfg s.clock.absTime,
        ay := s.ay.finishFrame s.cfg,
        clock := { s.clock with
          tstates := s.clock.tstates - (archConfig s.cfg).tFrame,
          frameCounter := s.clock.frameCounter + 1 },
        ula := { s.ula with
          flashCount := BitVec.ofNat 4 (s.ula.flashCount.toNat + 1),
          flashPhase := if s.ula.flashCount.toNat = 15 then !s.ula.flashPhase else s.ula.flashPhase },
        frameBoundary := true }

/-! ## Time -/

/-- A Z80 instruction moves the three clocks by the same number of T-states, at least 4, and no
other counter; a WD1793 command takes no time of its own; every step of the frame loop moves `tstates` on
by at least 4, so the loop ends (20 R120, 44 R462, R463, R483). -/
def Obligations.InstructionsAdvanceTime : Prop :=
  (
    ∀ (i : Instr) (s t : State), exec i s = .next t →
      ∃ k, t.clock = { s.clock with
          tstates := s.clock.tstates + k, globalTstates := s.clock.globalTstates + BitVec.ofNat 24 k,
          absTime := s.clock.absTime + k }
        ∧ (i.isWdCommand = false → 4 ≤ k) ∧ (i.isWdCommand = true → k = 0)
  ) ∧ (
    ∀ s t : State, loopStep s = .next t → s.clock.tstates + 4 ≤ t.clock.tstates
  )

/-- On a machine without contention every instruction takes the T-states of the timing table
(70 R795 and the bus sequences of files 40 to 43). -/
def Obligations.UncontendedTimes : Prop :=
  ∀ (i : Instr) (s t : State), (archConfig s.cfg).hasContention = false → exec i s = .next t →
    t.clock.absTime = s.clock.absTime + baseTime i s

/-- The delay of a T-state: the pattern 6,5,4,3,2,1,0,0 over 128 T-states of each of 192 lines from
CONT_START on, 0 elsewhere and without contention; only odd RAM banks are contended on the machines whose
set the spec gives, the set CONTENDED_BANKS on the others, whose default is the odd banks, and ROM nowhere
(20 R110, R112). -/
def Obligations.ContentionDelay : Prop :=
  (∀ (c : Cfg) (t : Nat), (archConfig c).hasContention = false → delayAt c t = 0)
    ∧ (∀ (c : Cfg) (start t : Nat), (archConfig c).hasContention = true →
        (archConfig c).contStart = some start → t < start → delayAt c t = 0)
    ∧ (∀ (c : Cfg) (start line col : Nat), (archConfig c).hasContention = true →
        (archConfig c).contStart = some start → col < (archConfig c).tLine →
        delayAt c (start + line * (archConfig c).tLine + col)
          = if line < 192 ∧ col < 128 then [6, 5, 4, 3, 2, 1, 0, 0].getD (col % 8) 0 else 0)
    ∧ (∀ c : Cfg, c.arch = .spec48 ∨ c.arch = .spec128 → ∀ t, (archConfig c).tFrame ≤ t →
        delayAt c t = 0)
    ∧ (∀ (c : Cfg) (b : BitVec 3), c.arch ≠ .tk → c.arch ≠ .plus2A3 →
        bankContended c b = ((archConfig c).hasContention && decide (b.toNat % 2 = 1)))
    ∧ (∀ (c : Cfg) (b : BitVec 3), c.arch = .tk ∨ c.arch = .plus2A3 →
        bankContended c b = ((archConfig c).hasContention && c.contendedBanks[b.toNat]))
    ∧ (∀ (c : Cfg) (b : BitVec 3), c.contendedBanks = defaultCfg.contendedBanks →
        bankContended c b = ((archConfig c).hasContention && decide (b.toNat % 2 = 1)))
    ∧ (∀ (c : Cfg) (id : RomId), pageContended c (.rom id) = false)

/-- A memory cycle charges its delay, looked up once, and its length; an internal cycle looks the
delay up at every T-state; an I/O cycle without contention accesses the port 3 T-states after its start and
takes 4, and with contention its delays fall where the table puts them (20 R120, R124, R130 to R132). -/
def Obligations.BusCycleTimes : Prop :=
  (
    (∀ (a : Word) (n : Nat) (s : State),
        (chargeCycle a n s).clock.tstates = s.clock.tstates + n
          + if contendedAt s.cfg s.paging a then delayAt s.cfg s.clock.tstates else 0)
      ∧ (∀ (a : Word) (s : State), internal a 0 s = s)
      ∧ (∀ (a : Word) (n : Nat) (s : State),
          (internal a (n + 1) s).clock.tstates
            = (internal a n s).clock.tstates + 1
              + if contendedAt s.cfg s.paging a then delayAt s.cfg (internal a n s).clock.tstates else 0)
  ) ∧ (
    (∀ (p : Word) (s : State), (archConfig s.cfg).hasContention = false →
        (chargeIo p s).clock.tstates = s.clock.tstates + 3
          ∧ (ioRead p s).2.clock.tstates = s.clock.tstates + 4
          ∧ ∀ v, (ioWrite p v s).clock.tstates = s.clock.tstates + 4)
      ∧ (∀ (p : Word) (s : State), (archConfig s.cfg).hasContention = true →
        let d := fun t => t + delayAt s.cfg t
        let t0 := s.clock.tstates
        (chargeIo p s).clock.tstates =
          match contendedAt s.cfg s.paging p, isUlaPort p with
          | false, true => d (t0 + 1) + 2
          | false, false => t0 + 3
          | true, true => d (d t0 + 1) + 2
          | true, false => d (d (d (d t0 + 1) + 1) + 1))
  )

/-! ## Memory -/

/-- The page table: which ROM and which banks the slots hold (20 R104), and that a paging write sets it and
its contention flags together unless the latch is locked (20 R106). -/
def Obligations.PagingFollowsTheLatch : Prop :=
  (∀ (c : Cfg) (v : Byte) (trdos : Bool),
      (pageTable c v trdos).slot0.page = .rom (if trdos then .trdos else
          if (archConfig c).hasPaging ∧ v.getLsbD 4 = false then .rom0 else .rom1)
        ∧ (pageTable c v trdos).slot1.page = .ram 5 ∧ (pageTable c v trdos).slot2.page = .ram 2
        ∧ (pageTable c v trdos).slot3.page
            = .ram (if (archConfig c).hasPaging then v.extractLsb' 0 3 else 0)
        ∧ (∀ a : Word, (slotAt (pageTable c v trdos) a).contended
            = pageContended c (slotAt (pageTable c v trdos) a).page))
    ∧ (∀ (s : State) (p : Word) (v : Byte), (archConfig s.cfg).hasPaging = true →
        p.getLsbD 15 = false → p.getLsbD 1 = false → betaSelected s p = false →
        (portWrite p v s).paging
          = if s.paging.port7FFD.getLsbD 5 then s.paging
            else pageTable s.cfg v s.paging.trdosActive)
    ∧ (∀ (s : State) (p : Word) (v : Byte),
        ((archConfig s.cfg).hasPaging = false ∨ p.getLsbD 15 = true ∨ p.getLsbD 1 = true) →
        (portWrite p v s).paging = s.paging)

/-- Once the paging latch is locked no step but a host action changes it (20 R106, 60 R760). -/
def Obligations.PagingLockHolds : Prop :=
  ∀ s t : State, s.paging.port7FFD.getLsbD 5 = true → (s.frameBoundary = false ∨ s.hostQueue = []) →
    step s = .next t → t.paging.port7FFD = s.paging.port7FFD

/-- TR-DOS paging: an opcode fetch in page 0x3D with ROM 1 selected turns it on, one at or above 0x4000
turns it off, both before the byte is read, and no other fetch changes it (20 R108). -/
def Obligations.TrdosPagingAtFetch : Prop :=
  (∀ (s : State) (a : Word), s.cfg.betadisk = true → s.paging.trdosActive = false →
      hiByte a = 0x3D → romSel s.cfg s.paging.port7FFD = .rom1 →
      (fetch a s).paging = pageTable s.cfg s.paging.port7FFD true)
    ∧ (∀ (s : State) (a : Word), s.cfg.betadisk = true → s.paging.trdosActive = true →
      0x4000 ≤ a.toNat → (fetch a s).paging = pageTable s.cfg s.paging.port7FFD false)
    ∧ (∀ (s : State) (a : Word),
      (s.cfg.betadisk = false
        ∨ (s.paging.trdosActive = false ∧ (hiByte a ≠ 0x3D ∨ romSel s.cfg s.paging.port7FFD ≠ .rom1))
        ∨ (s.paging.trdosActive = true ∧ a.toNat < 0x4000)) →
      (fetch a s).paging = s.paging)

/-- A store is read back, at its own address and at every address that maps to the same byte of RAM, and
no other byte of the 64 KB changes (20 R122, R123, R160). -/
def Obligations.StoresReadBack : Prop :=
  ∀ (s : State) (a b : Word) (v : Byte), Memory.wf s.ram = true →
    (s.writeByte a v).readByte b
      = if storePlace s.paging a = storePlace s.paging b ∧ storePlace s.paging a ≠ none then v
        else s.readByte b

/-- A store to an address whose slot holds a ROM takes the full time of a memory cycle and leaves every
byte of memory unchanged (20 R105); the slots that hold a ROM are those below 0x4000 (20 R104). -/
def Obligations.RomWritesAreDiscarded : Prop :=
  (∀ (s : State) (a : Word) (v : Byte) (id : RomId), (slotAt s.paging a).page = .rom id →
      (memWrite a v s).clock.tstates = s.clock.tstates + 3
          + (if contendedAt s.cfg s.paging a then delayAt s.cfg s.clock.tstates else 0)
        ∧ memWrite a v s = chargeCycle a 3 s
        ∧ (memWrite a v s).ram = s.ram ∧ (memWrite a v s).rom = s.rom
        ∧ ∀ b, (memWrite a v s).readByte b = s.readByte b)
    ∧ (∀ (s : State) (a : Word), PageTableForm s →
        ((∃ id, (slotAt s.paging a).page = .rom id) ↔ a.toNat < 0x4000))

/-! ## Invariants -/

/-- The state after reset meets every invariant that a step keeps. -/
def Obligations.ResetMeetsInvariants : Prop :=
  MemoryForm State.reset ∧ PageTableForm State.reset ∧ ClockForm State.reset ∧ WdForm State.reset
    ∧ HeadForm State.reset ∧ AyForm State.reset

/-- Every step keeps every memory in canonical form. -/
def Obligations.StepKeepsMemoryForm : Prop :=
  ∀ s t : State, MemoryForm s → step s = .next t → MemoryForm t

/-- Every step keeps the page table the function of the latch and the TR-DOS flag (20 R104) and
`global_tstates` equal to `absTime` modulo 2^24 (10 R38), and no step changes the ROM images or the
configuration (00 R9, 20 R105, 44 R480). -/
def Obligations.StepKeepsMapClocksAndRom : Prop :=
  (
    ∀ s t : State, PageTableForm s → step s = .next t → PageTableForm t
  ) ∧ (
    ∀ s t : State, ClockForm s → step s = .next t → ClockForm t
  ) ∧ (
    ∀ s t : State, step s = .next t → t.rom = s.rom ∧ t.cfg = s.cfg
  )

/-- Every step keeps BUSY equal to "not idle" and a controller held in reset idle (47 R618, R632), and every
head at a track from 0 to 83 (47 R639, R644). -/
def Obligations.StepKeepsBusyExact : Prop :=
  (∀ s t : State, WdForm s → step s = .next t → WdForm t)
    ∧ (∀ s t : State, HeadForm s → step s = .next t → HeadForm t)

/-- Every step keeps the AY registers within their masks and the LFSR off 0 (46 R553, R561). -/
def Obligations.StepKeepsAyForm : Prop :=
  ∀ s t : State, AyForm s → step s = .next t → AyForm t

/-- What reset leaves, where the spec states it (70 R780; 10 R35 to R53; 47 R660; 48 R715). -/
def Obligations.ResetValues : Prop :=
  State.reset.cpu.pc = 0x0000 ∧ State.reset.cpu.i = 0 ∧ State.reset.cpu.r = 0
    ∧ State.reset.cpu.iff1 = false ∧ State.reset.cpu.iff2 = false ∧ State.reset.cpu.im = .im0
    ∧ State.reset.cpu.halted = false ∧ State.reset.cpu.eiBlock = false
    ∧ State.reset.cpu.nmiPending = false
    ∧ State.reset.clock = { tstates := 0, globalTstates := 0, absTime := 0, frameCounter := 0 }
    ∧ State.reset.paging = pageTable State.reset.cfg 0x00 false
    ∧ State.reset.ula.borderColour = 0 ∧ State.reset.ula.micOut = false
    ∧ State.reset.ula.earOut = false ∧ State.reset.ula.flashPhase = false
    ∧ State.reset.ula.flashCount = 0
    ∧ State.reset.ay.selected = 0 ∧ State.reset.ay.regs = Vector.replicate 14 0
    ∧ State.reset.ay.lfsr = 1 ∧ State.reset.ay.pcm = []
    ∧ State.reset.disk.wd.cmdReg = 0x03 ∧ State.reset.disk.wd.trackReg = 0x00
    ∧ State.reset.disk.wd.sectorReg = 0x01 ∧ State.reset.disk.wd.dataReg = 0x00
    ∧ State.reset.disk.wd.statusReg = 0x00 ∧ State.reset.disk.wd.state = .idle
    ∧ State.reset.disk.wd.dire = true ∧ State.reset.disk.wd.betaSys = 0x00
    ∧ State.reset.disk.wd.heldInReset = true ∧ State.reset.disk.wd.lastStep = 0
    ∧ (∀ u : Fin 4, State.reset.disk.drives[u].headTrack = 0)
    ∧ State.reset.tape.status = .stopped ∧ State.reset.tape.phase = .sync
    ∧ State.reset.tape.bitMask = 0x80 ∧ State.reset.tape.pulseLen = 2168
    ∧ State.reset.tape.earBit = false

/-- Which instructions change the interrupt state: IFF1 and IFF2 only EI, DI and the interrupt returns,
IM only the IM forms, `halted` only HALT, `eiBlock` only EI and an ignored prefix, `nmiPending` none;
I only `LD I,A`; R moves once per opcode fetch but in `LD R,A` (43 R411 to R424, R451; 40 R246, R247;
44 R462; 10 R36). -/
def Obligations.ControlStateChanges : Prop :=
  ∀ (i : Instr) (s t : State), exec i s = .next t →
    t.cpu.iff1 = (match i with
      | .ei => true | .di => false | .reti | .retn | .retnDup _ => s.cpu.iff2 | _ => s.cpu.iff1)
    ∧ t.cpu.iff2 = (match i with | .ei => true | .di => false | _ => s.cpu.iff2)
    ∧ t.cpu.im = (match i with
      | .im0 => .im0 | .im1 => .im1 | .im2 => .im2 | .imDup y => imOf y | _ => s.cpu.im)
    ∧ t.cpu.halted = (match i with | .halt => true | _ => s.cpu.halted)
    ∧ t.cpu.eiBlock = (match i with | .ei | .ignoredPrefix _ => true | _ => s.cpu.eiBlock)
    ∧ t.cpu.nmiPending = s.cpu.nmiPending
    ∧ t.cpu.i = (match i with | .ldIA => s.cpu.a | _ => s.cpu.i)
    ∧ t.cpu.r = (match i with
      | .ldRA => s.cpu.a
      | i => if i.isWdCommand then s.cpu.r
             else if opcodeFetches i = 1 then nextR s.cpu.r else nextR (nextR s.cpu.r))
    ∧ (∀ r : Byte, (nextR r).toNat = r.toNat / 128 * 128 + (r.toNat + 1) % 128)

/-! ## Registers and loads -/

/-- The register file: setting a register, a pair, an index register or a half of one changes that one and
nothing else and is read back; the pairs are their two bytes, an index half is a byte of its index register,
and the four pairs of an index register's ADD are BC, DE, the register itself and SP (10 R30, R31, R33;
30 R182, R183, R192, R196; 41 R324). -/
def Obligations.RegisterFile : Prop :=
  (∀ (c : Cpu) (r : Reg8) (v : Byte), c.setReg r v =
      { c with b := if r = .b then v else c.b, c := if r = .c then v else c.c,
               d := if r = .d then v else c.d, e := if r = .e then v else c.e,
               h := if r = .h then v else c.h, l := if r = .l then v else c.l,
               a := if r = .a then v else c.a })
    ∧ (∀ (c : Cpu) (r r2 : Reg8) (v : Byte),
        (c.setReg r v).reg r2 = if r2 = r then v else c.reg r2)
    ∧ (∀ (c : Cpu) (p q : RegPair) (w : Word),
        (c.setPair p w).pair q = if q = p then w else c.pair q)
    ∧ (∀ (c : Cpu) (p q : StackPair) (w : Word),
        (c.setStackPair p w).stackPair q = if q = p then w else c.stackPair q)
    ∧ (∀ (c : Cpu) (i j : Idx) (h k : Half) (v : Byte),
        (c.setHalf i h v).half j k = if j = i ∧ k = h then v else c.half j k)
    ∧ (∀ c : Cpu, (c.pair .bc).toNat = 256 * c.b.toNat + c.c.toNat
        ∧ (c.pair .de).toNat = 256 * c.d.toNat + c.e.toNat
        ∧ (c.pair .hl).toNat = 256 * c.h.toNat + c.l.toNat ∧ c.pair .sp = c.sp
        ∧ (c.stackPair .af).toNat = 256 * c.a.toNat + c.f.toNat)
    ∧ (∀ (c : Cpu) (i : Idx),
        (c.idx i).toNat = 256 * (c.half i .ih).toNat + (c.half i .il).toNat)
    ∧ (∀ (c : Cpu) (p : RegPair) (w : Word), c.setPair p w =
        { c with b := (c.setPair p w).b, c := (c.setPair p w).c, d := (c.setPair p w).d,
                 e := (c.setPair p w).e, h := (c.setPair p w).h, l := (c.setPair p w).l,
                 sp := (c.setPair p w).sp })
    ∧ (∀ (c : Cpu) (p : StackPair) (w : Word), c.setStackPair p w =
        { c with a := (c.setStackPair p w).a, f := (c.setStackPair p w).f, b := (c.setStackPair p w).b,
                 c := (c.setStackPair p w).c, d := (c.setStackPair p w).d, e := (c.setStackPair p w).e,
                 h := (c.setStackPair p w).h, l := (c.setStackPair p w).l })
    ∧ (∀ (c : Cpu) (i : Idx) (h : Half) (v : Byte), c.setHalf i h v =
        { c with ix := (c.setHalf i h v).ix, iy := (c.setHalf i h v).iy })
    ∧ (∀ (c : Cpu) (i j : Idx) (w : Word),
        c.idx .ix = c.ix ∧ c.idx .iy = c.iy
          ∧ c.setIdx i w = { c with ix := if i = .ix then w else c.ix,
                                    iy := if i = .iy then w else c.iy }
          ∧ (c.setIdx i w).idx j = if j = i then w else c.idx j)
    ∧ (∀ (c : Cpu) (i : Idx) (r q : HalfReg) (v : Byte),
        [HalfReg.b, .c, .d, .e, .ih, .il, .a].map (c.halfReg i)
            = [c.b, c.c, c.d, c.e, c.half i .ih, c.half i .il, c.a]
          ∧ (c.setHalfReg i r v).halfReg i q = (if q = r then v else c.halfReg i q)
          ∧ c.setHalfReg i r v =
            { c with b := if r = .b then v else c.b, c := if r = .c then v else c.c,
                     d := if r = .d then v else c.d, e := if r = .e then v else c.e,
                     a := if r = .a then v else c.a,
                     ix := if (r = .ih ∨ r = .il) ∧ i = .ix then (c.setHalfReg i r v).ix else c.ix,
                     iy := if (r = .ih ∨ r = .il) ∧ i = .iy then (c.setHalfReg i r v).iy else c.iy })
    ∧ (∀ (c : Cpu) (i : Idx),
        [IdxPair.bc, .de, .ii, .sp].map (c.idxPair i) = [c.pair .bc, c.pair .de, c.idx i, c.sp])

/-- Loads of a register or a register pair from a register, an immediate or memory complete: the
value reaches the destination, read through the page table of the instruction's fetches, no flag and
nothing else changes (40 R230 to R233, R238 to R240, R248, R249, R254 to R258). -/
def Obligations.Loads : Prop :=
  (
    ∀ s : State,
      (∀ r r2 : Reg8, Completes (.ldRS r r2) s fun t =>
        RegsOnly s t (fetchOp s) (pagingAfter1 s)
          ((ran1 s (s.cpu.pc + 1)).setReg r (s.cpu.reg r2)))
      ∧ (∀ (r : Reg8) (n : Byte), Completes (.ldRN r n) s fun t =>
        RegsOnly s t (fetchOpN s) (pagingAfter1 s) ((ran1 s (s.cpu.pc + 2)).setReg r n))
      ∧ (s.cfg.undoc = .execute → ∀ (i : Idx) (r r2 : HalfReg), Completes (.ldHalves i r r2) s fun t =>
        RegsOnly s t (fetchOp2 s) (pagingAfter2 s)
          ((ran2 s (s.cpu.pc + 2)).setHalfReg i r (s.cpu.halfReg i r2)))
      ∧ (s.cfg.undoc = .execute → ∀ (i : Idx) (h : Half) (n : Byte),
        Completes (.ldIhlN i h n) s fun t =>
          RegsOnly s t (fetchOp2N s) (pagingAfter2 s) ((ran2 s (s.cpu.pc + 3)).setHalf i h n))
  ) ∧ (
    ∀ s : State,
      (∀ r : Reg8, Completes (.ldRMHl r) s fun t =>
        RegsOnly s t (skipRead s.cpu.hl (fetchOp s)) (pagingAfter1 s)
          ((ran1 s (s.cpu.pc + 1)).setReg r (readAfter1 s s.cpu.hl)))
      ∧ (∀ (i : Idx) (r : Reg8) (d : Byte), Completes (.ldRMIx i r d) s fun t =>
        RegsOnly s t (skipRead (s.cpu.ea i d) (fetchIdx s)) (pagingAfter2 s)
          ((ran2 s (s.cpu.pc + 3)).setReg r (readAfter2 s (s.cpu.ea i d))))
      ∧ (Completes .ldAMBc s fun t =>
        RegsOnly s t (skipRead s.cpu.bc (fetchOp s)) (pagingAfter1 s)
          { ran1 s (s.cpu.pc + 1) with a := readAfter1 s s.cpu.bc })
      ∧ (Completes .ldAMDe s fun t =>
        RegsOnly s t (skipRead s.cpu.de (fetchOp s)) (pagingAfter1 s)
          { ran1 s (s.cpu.pc + 1) with a := readAfter1 s s.cpu.de })
      ∧ (∀ nn : Word, Completes (.ldAMNn nn) s fun t =>
        RegsOnly s t (skipRead nn (fetchOpNn s)) (pagingAfter1 s)
          { ran1 s (s.cpu.pc + 3) with a := readAfter1 s nn })
      ∧ (∀ (rr : RegPair) (nn : Word), Completes (.ldRrNn rr nn) s fun t =>
        RegsOnly s t (fetchOpNn s) (pagingAfter1 s) ((ran1 s (s.cpu.pc + 3)).setPair rr nn))
      ∧ (∀ (i : Idx) (nn : Word), Completes (.ldIiNn i nn) s fun t =>
        RegsOnly s t (fetchOp2Nn s) (pagingAfter2 s) ((ran2 s (s.cpu.pc + 4)).setIdx i nn))
      ∧ (∀ nn : Word, Completes (.ldHlMNn nn) s fun t =>
        RegsOnly s t (skipRead (nn + 1) (skipRead nn (fetchOpNn s))) (pagingAfter1 s)
          { ran1 s (s.cpu.pc + 3) with h := readAfter1 s (nn + 1), l := readAfter1 s nn })
      ∧ (∀ (rr : RegPair) (nn : Word), Completes (.ldRrMNn rr nn) s fun t =>
        RegsOnly s t (skipRead (nn + 1) (skipRead nn (fetchOp2Nn s))) (pagingAfter2 s)
          ((ran2 s (s.cpu.pc + 4)).setPair rr (wordAfter2 s nn)))
      ∧ (∀ (i : Idx) (nn : Word), Completes (.ldIiMNn i nn) s fun t =>
        RegsOnly s t (skipRead (nn + 1) (skipRead nn (fetchOp2Nn s))) (pagingAfter2 s)
          ((ran2 s (s.cpu.pc + 4)).setIdx i (wordAfter2 s nn)))
  )

/-- The stores complete: the bytes stored and their addresses in order, no register but PC and R changed,
every other byte of memory unchanged (40 R234 to R237, R241 to R243, R259 to R261). -/
def Obligations.MemoryStores : Prop :=
  ∀ s : State,
    (∀ r : Reg8, Completes (.ldMHlS r) s fun t =>
      StoresOnly s t (memWrite s.cpu.hl (s.cpu.reg r) (fetchOp s)) (pagingAfter1 s)
        (ran1 s (s.cpu.pc + 1)) [(s.cpu.hl, s.cpu.reg r)])
    ∧ (∀ n : Byte, Completes (.ldMHlN n) s fun t =>
      StoresOnly s t (memWrite s.cpu.hl n (fetchOpN s)) (pagingAfter1 s)
        (ran1 s (s.cpu.pc + 2)) [(s.cpu.hl, n)])
    ∧ (∀ (i : Idx) (r : Reg8) (d : Byte), Completes (.ldMIxS i r d) s fun t =>
      StoresOnly s t (memWrite (s.cpu.ea i d) (s.cpu.reg r) (fetchIdx s)) (pagingAfter2 s)
        (ran2 s (s.cpu.pc + 3)) [(s.cpu.ea i d, s.cpu.reg r)])
    ∧ (∀ (i : Idx) (d n : Byte), Completes (.ldMIxN i d n) s fun t =>
      StoresOnly s t (memWrite (s.cpu.ea i d) n (internal (s.cpu.pc + 3) 2 (fetchOp2Nn s)))
        (pagingAfter2 s) (ran2 s (s.cpu.pc + 4)) [(s.cpu.ea i d, n)])
    ∧ (Completes .ldMBcA s fun t =>
      StoresOnly s t (memWrite s.cpu.bc s.cpu.a (fetchOp s)) (pagingAfter1 s)
        (ran1 s (s.cpu.pc + 1)) [(s.cpu.bc, s.cpu.a)])
    ∧ (Completes .ldMDeA s fun t =>
      StoresOnly s t (memWrite s.cpu.de s.cpu.a (fetchOp s)) (pagingAfter1 s)
        (ran1 s (s.cpu.pc + 1)) [(s.cpu.de, s.cpu.a)])
    ∧ (∀ nn : Word, Completes (.ldMNnA nn) s fun t =>
      StoresOnly s t (memWrite nn s.cpu.a (fetchOpNn s)) (pagingAfter1 s)
        (ran1 s (s.cpu.pc + 3)) [(nn, s.cpu.a)])
    ∧ (∀ nn : Word, Completes (.ldMNnHl nn) s fun t =>
      StoresOnly s t (memWriteWord nn s.cpu.hl (fetchOpNn s)) (pagingAfter1 s)
        (ran1 s (s.cpu.pc + 3)) [(nn, loByte s.cpu.hl), (nn + 1, hiByte s.cpu.hl)])
    ∧ (∀ (rr : RegPair) (nn : Word), Completes (.ldMNnRr rr nn) s fun t =>
      StoresOnly s t (memWriteWord nn (s.cpu.pair rr) (fetchOp2Nn s)) (pagingAfter2 s)
        (ran2 s (s.cpu.pc + 4)) [(nn, loByte (s.cpu.pair rr)), (nn + 1, hiByte (s.cpu.pair rr))])
    ∧ (∀ (i : Idx) (nn : Word), Completes (.ldMNnIi i nn) s fun t =>
      StoresOnly s t (memWriteWord nn (s.cpu.idx i) (fetchOp2Nn s)) (pagingAfter2 s)
        (ran2 s (s.cpu.pc + 4)) [(nn, loByte (s.cpu.idx i)), (nn + 1, hiByte (s.cpu.idx i))])

/-- The loads of and from I and R: R is read after the instruction's own two fetches, PV is IFF2 unless a
maskable interrupt is accepted at the next boundary of the frame loop, where it is a draw; loading I and R
changes no flag (40 R244 to R247). That acceptance is what comes: a host action and the end of a frame leave
it as foreseen, and a turn of the loop is an acceptance exactly when it is foreseen (44 R463, R470, R480,
R481). Host actions as a queue are the model's (log 9); a draw is a free value (log 7). -/
def Obligations.LoadsOfIAndR : Prop :=
  (∀ s : State, cfgAdmitted s.cfg = true →
    let acts := s.frameBoundary = true ∧ s.hostQueue ≠ []
    (¬ acts → s.clock.tstates < (archConfig s.cfg).tFrame →
      (intAtBoundary s = true ↔ s.cpu.nmiPending = false ∧ acceptsInt s = true))
    ∧ (acts ∨ (archConfig s.cfg).tFrame ≤ s.clock.tstates →
      ∃ t, step s = .next t ∧ intAtBoundary t = intAtBoundary s)) ∧
  ∀ s : State,
    let bus := internalIr 1 (fetchOp2 s)
    let r := nextR (nextR s.cpu.r)
    (∀ (i : Instr) (v : Byte), (i = .ldAI ∧ v = s.cpu.i) ∨ (i = .ldAR ∧ v = r) →
      Completes i s fun t =>
        if intAtBoundary t then
          RegsDrawn s t bus 1 (pagingAfter2 s)
            { ran2 s (s.cpu.pc + 2) with
              a := v, f := szxyF v false (Config.drawBool s.drawCount) false (flagC s.cpu.f) }
        else
          RegsOnly s t bus (pagingAfter2 s)
            { ran2 s (s.cpu.pc + 2) with
              a := v, f := szxyF v false s.cpu.iff2 false (flagC s.cpu.f) })
    ∧ (Completes .ldIA s fun t =>
      RegsOnly s t bus (pagingAfter2 s) { ran2 s (s.cpu.pc + 2) with i := s.cpu.a })
    ∧ (Completes .ldRA s fun t =>
      RegsOnly s t bus (pagingAfter2 s) { ran2 s (s.cpu.pc + 2) with r := s.cpu.a })

/-- PUSH, POP, the exchanges with the top of the stack (the high byte goes to the higher address,
and `EX (SP)` keeps SP), the register exchanges and the loads of SP (40 R250 to R253, R262 to R268). -/
def Obligations.StackAndExchanges : Prop :=
  (
    ∀ s : State,
      let sp := s.cpu.sp
      (∀ qq : StackPair, Completes (.pushQq qq) s fun t =>
        StoresOnly s t (push (s.cpu.stackPair qq) (internalIr 1 (fetchOp s))) (pagingAfter1 s)
          { ran1 s (s.cpu.pc + 1) with sp := sp - 2 }
          [(sp - 1, hiByte (s.cpu.stackPair qq)), (sp - 2, loByte (s.cpu.stackPair qq))])
      ∧ (∀ i : Idx, Completes (.pushIi i) s fun t =>
        StoresOnly s t (push (s.cpu.idx i) (internalIr 1 (fetchOp2 s))) (pagingAfter2 s)
          { ran2 s (s.cpu.pc + 2) with sp := sp - 2 }
          [(sp - 1, hiByte (s.cpu.idx i)), (sp - 2, loByte (s.cpu.idx i))])
      ∧ (∀ qq : StackPair, Completes (.popQq qq) s fun t =>
        RegsOnly s t (skipRead (sp + 1) (skipRead sp (fetchOp s))) (pagingAfter1 s)
          ({ ran1 s (s.cpu.pc + 1) with sp := sp + 2 }.setStackPair qq (wordAfter1 s sp)))
      ∧ (∀ i : Idx, Completes (.popIi i) s fun t =>
        RegsOnly s t (skipRead (sp + 1) (skipRead sp (fetchOp2 s))) (pagingAfter2 s)
          ({ ran2 s (s.cpu.pc + 2) with sp := sp + 2 }.setIdx i (wordAfter2 s sp)))
      ∧ (Completes .exMSpHl s fun t =>
        StoresOnly s t (exchangeTop s.cpu.hl (fetchOp s)).2 (pagingAfter1 s)
          ((ran1 s (s.cpu.pc + 1)).setHl (wordAfter1 s sp))
          [(sp + 1, s.cpu.h), (sp, s.cpu.l)])
      ∧ (∀ i : Idx, Completes (.exMSpIi i) s fun t =>
        StoresOnly s t (exchangeTop (s.cpu.idx i) (fetchOp2 s)).2 (pagingAfter2 s)
          ((ran2 s (s.cpu.pc + 2)).setIdx i (wordAfter2 s sp))
          [(sp + 1, hiByte (s.cpu.idx i)), (sp, loByte (s.cpu.idx i))])
  ) ∧ (
    ∀ s : State,
      (Completes .exAfAf s fun t => RegsOnly s t (fetchOp s) (pagingAfter1 s)
        { ran1 s (s.cpu.pc + 1) with
          a := s.cpu.a2, f := s.cpu.f2, a2 := s.cpu.a, f2 := s.cpu.f })
      ∧ (Completes .exx s fun t => RegsOnly s t (fetchOp s) (pagingAfter1 s)
        { ran1 s (s.cpu.pc + 1) with
          b := s.cpu.b2, c := s.cpu.c2, d := s.cpu.d2, e := s.cpu.e2, h := s.cpu.h2, l := s.cpu.l2,
          b2 := s.cpu.b, c2 := s.cpu.c, d2 := s.cpu.d, e2 := s.cpu.e, h2 := s.cpu.h, l2 := s.cpu.l })
      ∧ (Completes .exDeHl s fun t => RegsOnly s t (fetchOp s) (pagingAfter1 s)
        { ran1 s (s.cpu.pc + 1) with d := s.cpu.h, e := s.cpu.l, h := s.cpu.d, l := s.cpu.e })
      ∧ (Completes .ldSpHl s fun t => RegsOnly s t (internalIr 2 (fetchOp s)) (pagingAfter1 s)
        { ran1 s (s.cpu.pc + 1) with sp := s.cpu.hl })
      ∧ (∀ i : Idx, Completes (.ldSpIi i) s fun t =>
        RegsOnly s t (internalIr 2 (fetchOp2 s)) (pagingAfter2 s)
          { ran2 s (s.cpu.pc + 2) with sp := s.cpu.idx i })
  )

/-! ## Block transfer and search -/

/-- LDI, LDIR, LDD, LDDR, CPI, CPIR, CPD and CPDR (40 R269 to R277; draws are free values, log 7). -/
def Obligations.BlockTransferAndSearch : Prop :=
  (
    ∀ s : State, copyClaim 1 false .ldi s ∧ copyClaim 1 true .ldir s
      ∧ copyClaim 0xFFFF false .ldd s ∧ copyClaim 0xFFFF true .lddr s
  ) ∧ (
    ∀ s : State, searchClaim 1 false .cpi s ∧ searchClaim 1 true .cpir s
      ∧ searchClaim 0xFFFF false .cpd s ∧ searchClaim 0xFFFF true .cpdr s
  )

/-! ## Arithmetic and logic -/

/-- The eight 8-bit ALU instructions in every operand form (41 R301 to R309). -/
def Obligations.AluInstructions : Prop :=
  ∀ s : State,
    aluClaim (fun a v _ => addByte a v false) .addAR .addAMHl .addAN .addAIhl .addAMIx s
    ∧ aluClaim addByte .adcAR .adcAMHl .adcAN .adcAIhl .adcAMIx s
    ∧ aluClaim (fun a v _ => subByte a v false) .subAR .subAMHl .subAN .subAIhl .subAMIx s
    ∧ aluClaim subByte .sbcAR .sbcAMHl .sbcAN .sbcAIhl .sbcAMIx s
    ∧ aluClaim (fun a v _ => (a &&& v, szxyF (a &&& v) true (parity (a &&& v)) false false))
        .andAR .andAMHl .andAN .andAIhl .andAMIx s
    ∧ aluClaim (fun a v _ => (a ^^^ v, szxyF (a ^^^ v) false (parity (a ^^^ v)) false false))
        .xorAR .xorAMHl .xorAN .xorAIhl .xorAMIx s
    ∧ aluClaim (fun a v _ => (a ||| v, szxyF (a ||| v) false (parity (a ||| v)) false false))
        .orAR .orAMHl .orAN .orAIhl .orAMIx s
    ∧ aluClaim (fun a v _ => (a, compareF a v)) .cpAR .cpAMHl .cpAN .cpAIhl .cpAMIx s

/-- F's bits, `SZXY` and the parity; the byte additions, subtractions and the compare on integers: the result modulo 256, S, Z, Y, X from
it, H the carry or borrow at bit 4, PV signed overflow, C the carry or borrow out; a compare takes Y and X
from the operand (10 R32; 41 R300, R302 to R305, R309). -/
def Obligations.ByteArithmetic : Prop :=
  (∀ s z y h x pv n c : Bool,
    let f := packF s z y h x pv n c
    [7, 6, 5, 4, 3, 2, 1, 0].map f.getLsbD = [s, z, y, h, x, pv, n, c]
      ∧ [flagS f, flagZ f, flagY f, flagH f, flagX f, flagPV f, flagN f, flagC f]
          = [s, z, y, h, x, pv, n, c])
  ∧ (∀ (v : Byte) (h pv n c : Bool),
    szxyF v h pv n c = packF v.msb (decide (v = 0)) (v.getLsbD 5) h (v.getLsbD 3) pv n c
      ∧ (parity v = true ↔ ((List.range 8).filter fun i => v.getLsbD i).length % 2 = 0))
  ∧
  (∀ (a v : Byte) (c : Bool),
    let r := (addByte a v c).1
    let f := (addByte a v c).2
    let n := if c then 1 else 0
    r.toNat = (a.toNat + v.toNat + n) % 256
      ∧ flagS f = r.msb ∧ flagZ f = decide (r = 0) ∧ flagY f = r.getLsbD 5 ∧ flagX f = r.getLsbD 3
      ∧ flagH f = decide (15 < a.toNat % 16 + v.toNat % 16 + n)
      ∧ flagPV f = decide (a.toInt + v.toInt + n < -128 ∨ 127 < a.toInt + v.toInt + n)
      ∧ flagN f = false ∧ flagC f = decide (255 < a.toNat + v.toNat + n))
  ∧ (∀ (a v : Byte) (c : Bool),
    let r := (subByte a v c).1
    let f := (subByte a v c).2
    let n := if c then 1 else 0
    r.toNat = (a.toNat + 512 - v.toNat - n) % 256
      ∧ flagS f = r.msb ∧ flagZ f = decide (r = 0) ∧ flagY f = r.getLsbD 5 ∧ flagX f = r.getLsbD 3
      ∧ flagH f = decide (a.toNat % 16 < v.toNat % 16 + n)
      ∧ flagPV f = decide (a.toInt - v.toInt - n < -128 ∨ 127 < a.toInt - v.toInt - n)
      ∧ flagN f = true ∧ flagC f = decide (a.toNat < v.toNat + n))
  ∧ (∀ a v : Byte,
    let f := compareF a v
    let g := (subByte a v false).2
    flagS f = flagS g ∧ flagZ f = decide (a = v) ∧ flagY f = v.getLsbD 5 ∧ flagX f = v.getLsbD 3
      ∧ flagH f = flagH g ∧ flagPV f = flagPV g ∧ flagN f = true ∧ flagC f = decide (a.toNat < v.toNat))

/-- INC and DEC of a byte in every form: S, Z, Y, X of the result, H, PV and N as the rules give, C kept;
a form on memory stores the result (41 R310 to R315). -/
def Obligations.IncrementsAndDecrements : Prop :=
  ∀ s : State,
    let incF := fun v : Byte =>
      szxyF (v + 1) (v.toNat % 16 == 15) (v == 0x7F) false (flagC s.cpu.f)
    let decF := fun v : Byte =>
      szxyF (v - 1) (v.toNat % 16 == 0) (v == 0x80) true (flagC s.cpu.f)
    let onReg := fun (i : Reg8 → Instr) (op f : Byte → Byte) => ∀ r : Reg8,
      Completes (i r) s fun t => RegsOnly s t (fetchOp s) (pagingAfter1 s)
        { (ran1 s (s.cpu.pc + 1)).setReg r (op (s.cpu.reg r)) with f := f (s.cpu.reg r) }
    let onHalf := fun (i : Idx → Half → Instr) (op f : Byte → Byte) => ∀ (x : Idx) (h : Half),
      Completes (i x h) s fun t => RegsOnly s t (fetchOp2 s) (pagingAfter2 s)
        { (ran2 s (s.cpu.pc + 2)).setHalf x h (op (s.cpu.half x h)) with f := f (s.cpu.half x h) }
    let onMHl := fun (i : Instr) (op f : Byte → Byte) =>
      let v := readAfter1 s s.cpu.hl
      Completes i s fun t =>
        StoresOnly s t
          (memWrite s.cpu.hl (op v) (internal s.cpu.hl 1 (skipRead s.cpu.hl (fetchOp s))))
          (pagingAfter1 s) { ran1 s (s.cpu.pc + 1) with f := f v } [(s.cpu.hl, op v)]
    let onMIx := fun (i : Idx → Byte → Instr) (op f : Byte → Byte) => ∀ (x : Idx) (d : Byte),
      let ea := s.cpu.ea x d
      let v := readAfter2 s ea
      Completes (i x d) s fun t =>
        StoresOnly s t (memWrite ea (op v) (internal ea 1 (skipRead ea (fetchIdx s))))
          (pagingAfter2 s) { ran2 s (s.cpu.pc + 3) with f := f v } [(ea, op v)]
    onReg .incR (· + 1) incF ∧ onReg .decR (· - 1) decF
    ∧ (s.cfg.undoc = .execute → onHalf .incIhl (· + 1) incF ∧ onHalf .decIhl (· - 1) decF)
    ∧ onMHl .incMHl (· + 1) incF ∧ onMHl .decMHl (· - 1) decF
    ∧ onMIx .incMIx (· + 1) incF ∧ onMIx .decMIx (· - 1) decF

/-- DAA, CPL, NEG and its duplicates, CCF and SCF; the Y and X of the last two are draws (41 R316 to
R320; draws are free values, log 7). -/
def Obligations.AccumulatorAndFlags : Prop :=
  ∀ s : State,
    let a := s.cpu.a
    let f := s.cpu.f
    let lo := a.toNat % 16
    let corr : Byte := (if flagH f = true ∨ 9 < lo then 0x06 else 0)
      + (if flagC f = true ∨ 0x99 < a.toNat then 0x60 else 0)
    let adj := if flagN f then a - corr else a + corr
    let negated := { ran2 s (s.cpu.pc + 2) with
      a := 0 - a, f := szxyF (0 - a) (lo != 0) (a == 0x80) true (a != 0) }
    let drawn := fun (h c : Bool) => { ran1 s (s.cpu.pc + 1) with
      f := packF (flagS f) (flagZ f) (Config.drawBool s.drawCount) h
        (Config.drawBool (s.drawCount + 1)) (flagPV f) false c }
    (Completes .daa s fun t => RegsOnly s t (fetchOp s) (pagingAfter1 s)
      { ran1 s (s.cpu.pc + 1) with
        a := adj,
        f := szxyF adj (if flagN f then flagH f && decide (lo < 6) else decide (9 < lo)) (parity adj)
          (flagN f) (flagC f || decide (0x99 < a.toNat)) })
    ∧ (Completes .cpl s fun t => RegsOnly s t (fetchOp s) (pagingAfter1 s)
      { ran1 s (s.cpu.pc + 1) with
        a := ~~~a,
        f := packF (flagS f) (flagZ f) (!a.getLsbD 5) true (!a.getLsbD 3) (flagPV f) true (flagC f) })
    ∧ (Completes .neg s fun t => RegsOnly s t (fetchOp2 s) (pagingAfter2 s) negated)
    ∧ (s.cfg.undoc = .execute → ∀ y, Completes (.negDup y) s fun t =>
      RegsOnly s t (fetchOp2 s) (pagingAfter2 s) negated)
    ∧ (Completes .ccf s fun t =>
      RegsDrawn s t (fetchOp s) 2 (pagingAfter1 s) (drawn (flagC f) (!flagC f)))
    ∧ (Completes .scf s fun t => RegsDrawn s t (fetchOp s) 2 (pagingAfter1 s) (drawn false true))

/-- 16-bit arithmetic: ADD keeps S, Z and PV; ADC and SBC set them over the 16 bits; INC and DEC change no
flag (41 R321 to R328). -/
def Obligations.WordArithmetic : Prop :=
  ∀ s : State,
    let hl := s.cpu.hl
    let f := s.cpu.f
    let c := if flagC f then 1 else 0
    let sumF := fun a v : Word => packF (flagS f) (flagZ f) ((a + v).getLsbD 13)
      (decide (0xFFF < a.toNat % 4096 + v.toNat % 4096)) ((a + v).getLsbD 11) (flagPV f) false
      (decide (0xFFFF < a.toNat + v.toNat))
    (∀ rr : RegPair, Completes (.addHlRr rr) s fun t =>
      RegsOnly s t (internalIr 7 (fetchOp s)) (pagingAfter1 s)
        { (ran1 s (s.cpu.pc + 1)).setHl (hl + s.cpu.pair rr) with f := sumF hl (s.cpu.pair rr) })
    ∧ (∀ (i : Idx) (pp : IdxPair), Completes (.addIiRr i pp) s fun t =>
      RegsOnly s t (internalIr 7 (fetchOp2 s)) (pagingAfter2 s)
        { (ran2 s (s.cpu.pc + 2)).setIdx i (s.cpu.idx i + s.cpu.idxPair i pp) with
          f := sumF (s.cpu.idx i) (s.cpu.idxPair i pp) })
    ∧ (∀ rr : RegPair, Completes (.adcHlRr rr) s fun t =>
      let v := s.cpu.pair rr
      let res := hl + v + BitVec.ofNat 16 c
      RegsOnly s t (internalIr 7 (fetchOp2 s)) (pagingAfter2 s)
        { (ran2 s (s.cpu.pc + 2)).setHl res with
          f := packF res.msb (res == 0) (res.getLsbD 13)
            (decide (0xFFF < hl.toNat % 4096 + v.toNat % 4096 + c)) (res.getLsbD 11)
            (decide (hl.msb = v.msb ∧ res.msb ≠ hl.msb)) false
            (decide (0xFFFF < hl.toNat + v.toNat + c)) })
    ∧ (∀ rr : RegPair, Completes (.sbcHlRr rr) s fun t =>
      let v := s.cpu.pair rr
      let res := hl - v - BitVec.ofNat 16 c
      RegsOnly s t (internalIr 7 (fetchOp2 s)) (pagingAfter2 s)
        { (ran2 s (s.cpu.pc + 2)).setHl res with
          f := packF res.msb (res == 0) (res.getLsbD 13)
            (decide (hl.toNat % 4096 < v.toNat % 4096 + c)) (res.getLsbD 11)
            (decide (hl.msb ≠ v.msb ∧ res.msb ≠ hl.msb)) true
            (decide (hl.toNat < v.toNat + c)) })
    ∧ (∀ rr : RegPair, Completes (.incRr rr) s fun t =>
      RegsOnly s t (internalIr 2 (fetchOp s)) (pagingAfter1 s)
        ((ran1 s (s.cpu.pc + 1)).setPair rr (s.cpu.pair rr + 1)))
    ∧ (∀ rr : RegPair, Completes (.decRr rr) s fun t =>
      RegsOnly s t (internalIr 2 (fetchOp s)) (pagingAfter1 s)
        ((ran1 s (s.cpu.pc + 1)).setPair rr (s.cpu.pair rr - 1)))
    ∧ (∀ i : Idx, Completes (.incIi i) s fun t =>
      RegsOnly s t (internalIr 2 (fetchOp2 s)) (pagingAfter2 s)
        ((ran2 s (s.cpu.pc + 2)).setIdx i (s.cpu.idx i + 1)))
    ∧ (∀ i : Idx, Completes (.decIi i) s fun t =>
      RegsOnly s t (internalIr 2 (fetchOp2 s)) (pagingAfter2 s)
        ((ran2 s (s.cpu.pc + 2)).setIdx i (s.cpu.idx i - 1)))

/-! ## Rotates, shifts and bits -/

/-- The eight rotates and shifts by their bits, each bit of the result and the carry out, and the
eight CB instructions in their four forms (42 R370 to R382). -/
def Obligations.RotatesAndShifts : Prop :=
  (
    ∀ (v : Byte) (c : Bool),
      let left := fun (op : Rot) (b0 : Bool) =>
        (op v c).2 = v.getLsbD 7
          ∧ ∀ i, i < 8 → (op v c).1.getLsbD i = if i = 0 then b0 else v.getLsbD (i - 1)
      let right := fun (op : Rot) (b7 : Bool) =>
        (op v c).2 = v.getLsbD 0
          ∧ ∀ i, i < 8 → (op v c).1.getLsbD i = if i = 7 then b7 else v.getLsbD (i + 1)
      left rlc (v.getLsbD 7) ∧ left rl c ∧ left sla false ∧ left sll true
        ∧ right rrc (v.getLsbD 0) ∧ right rr c ∧ right sra (v.getLsbD 7) ∧ right srl false
  ) ∧ (
    ∀ s : State,
      rotateClaim rlc false .rlcR .rlcMHl .rlcMIx .rlcMIxCopy s
      ∧ rotateClaim rrc false .rrcR .rrcMHl .rrcMIx .rrcMIxCopy s
      ∧ rotateClaim rl false .rlR .rlMHl .rlMIx .rlMIxCopy s
      ∧ rotateClaim rr false .rrR .rrMHl .rrMIx .rrMIxCopy s
      ∧ rotateClaim sla false .slaR .slaMHl .slaMIx .slaMIxCopy s
      ∧ rotateClaim sra false .sraR .sraMHl .sraMIx .sraMIxCopy s
      ∧ rotateClaim sll true .sllR .sllMHl .sllMIx .sllMIxCopy s
      ∧ rotateClaim srl false .srlR .srlMHl .srlMIx .srlMIxCopy s
  )

/-- The accumulator rotates: C the bit shifted out, H and N 0, Y and X of the result, S, Z and PV kept; the
digit rotates: the digits move between A and the byte at HL, C kept (42 R370 to R373, R383, R384). -/
def Obligations.AccumulatorAndDigitRotates : Prop :=
  ∀ s : State,
    let a := s.cpu.a
    let f := s.cpu.f
    let rotated := fun (i : Instr) (op : Rot) => Completes i s fun t =>
      let o := op a (flagC f)
      RegsOnly s t (fetchOp s) (pagingAfter1 s)
        { ran1 s (s.cpu.pc + 1) with
          a := o.1,
          f := packF (flagS f) (flagZ f) (o.1.getLsbD 5) false (o.1.getLsbD 3) (flagPV f) false o.2 }
    let digits := fun (i : Instr) (mem acc : Nat) => Completes i s fun t =>
      StoresOnly s t
        (memWrite s.cpu.hl (byteOf mem) (internal s.cpu.hl 4 (skipRead s.cpu.hl (fetchOp2 s))))
        (pagingAfter2 s)
        { ran2 s (s.cpu.pc + 2) with
          a := byteOf acc,
          f := szxyF (byteOf acc) false (parity (byteOf acc)) false (flagC f) }
        [(s.cpu.hl, byteOf mem)]
    let v := (readAfter2 s s.cpu.hl).toNat
    rotated .rlca rlc ∧ rotated .rla rl ∧ rotated .rrca rrc ∧ rotated .rra rr
    ∧ digits .rld (v % 16 * 16 + a.toNat % 16) (a.toNat / 16 * 16 + v / 16)
    ∧ digits .rrd (a.toNat % 16 * 16 + v / 16) (a.toNat / 16 * 16 + v % 16)

/-- BIT: Z and PV tell the bit is 0, S the bit itself for bit 7, H 1, N 0, C kept, Y and X from the
register, drawn for a byte of memory, nothing written; SET and RES: the one bit changed and no other, no
flag changed, the copy forms write the named register too (42 R385 to R387; draws are free
values, log 7). -/
def Obligations.BitInstructions : Prop :=
  (
    ∀ (s : State) (b : BitVec 3),
      let f := fun (v : Byte) (y x : Bool) =>
        packF (decide (b = 7) && v.getLsbD b.toNat) (!v.getLsbD b.toNat) y true x
          (!v.getLsbD b.toNat) false (flagC s.cpu.f)
      let drawn := fun v => f v (Config.drawBool s.drawCount) (Config.drawBool (s.drawCount + 1))
      let onIx := fun (i : Instr) (x : Idx) (d : Byte) =>
        let ea := s.cpu.ea x d
        Completes i s fun t =>
          RegsDrawn s t (internal ea 1 (skipRead ea (fetchXcb s))) 2 (pagingAfter2 s)
            { ran2 s (s.cpu.pc + 4) with f := drawn (readAfter2 s ea) }
      (∀ r : Reg8, Completes (.bitBR b r) s fun t => RegsOnly s t (fetchOp2 s) (pagingAfter2 s)
        { ran2 s (s.cpu.pc + 2) with
          f := f (s.cpu.reg r) ((s.cpu.reg r).getLsbD 5) ((s.cpu.reg r).getLsbD 3) })
      ∧ (Completes (.bitBMHl b) s fun t =>
        RegsDrawn s t (internal s.cpu.hl 1 (skipRead s.cpu.hl (fetchOp2 s))) 2 (pagingAfter2 s)
          { ran2 s (s.cpu.pc + 2) with f := drawn (readAfter2 s s.cpu.hl) })
      ∧ (∀ (x : Idx) (d : Byte), onIx (.bitBMIx x b d) x d)
      ∧ (s.cfg.undoc = .execute → ∀ (x : Idx) (d : Byte) (r : Reg8), onIx (.bitBMIxDup x b d r) x d)
  ) ∧ (
    (∀ (b : BitVec 3) (v : Byte) (i : Nat), i < 8 →
      (setBit b v).getLsbD i = (v.getLsbD i || decide (i = b.toNat))
        ∧ (resBit b v).getLsbD i = (v.getLsbD i && decide (i ≠ b.toNat)))
    ∧ ∀ (s : State) (b : BitVec 3),
      let onReg := fun (i : Reg8 → Instr) (op : Byte → Byte) => ∀ r : Reg8,
        Completes (i r) s fun t => RegsOnly s t (fetchOp2 s) (pagingAfter2 s)
          ((ran2 s (s.cpu.pc + 2)).setReg r (op (s.cpu.reg r)))
      let onMHl := fun (i : Instr) (op : Byte → Byte) =>
        let v := readAfter2 s s.cpu.hl
        Completes i s fun t =>
          StoresOnly s t
            (memWrite s.cpu.hl (op v) (internal s.cpu.hl 1 (skipRead s.cpu.hl (fetchOp2 s))))
            (pagingAfter2 s) (ran2 s (s.cpu.pc + 2)) [(s.cpu.hl, op v)]
      let onMIx := fun (i : Instr) (x : Idx) (d : Byte) (op : Byte → Byte) (out : Cpu → Byte → Cpu) =>
        let ea := s.cpu.ea x d
        let v := readAfter2 s ea
        Completes i s fun t =>
          StoresOnly s t (memWrite ea (op v) (internal ea 1 (skipRead ea (fetchXcb s))))
            (pagingAfter2 s) (out (ran2 s (s.cpu.pc + 4)) (op v)) [(ea, op v)]
      onReg (.setBR b) (setBit b) ∧ onReg (.resBR b) (resBit b)
      ∧ onMHl (.setBMHl b) (setBit b) ∧ onMHl (.resBMHl b) (resBit b)
      ∧ (∀ (x : Idx) (d : Byte), onMIx (.setBMIx x b d) x d (setBit b) (fun c _ => c)
          ∧ onMIx (.resBMIx x b d) x d (resBit b) (fun c _ => c))
      ∧ (s.cfg.undoc = .execute → ∀ (x : Idx) (d : Byte) (r : Reg8),
          onMIx (.setBMIxCopy x b d r) x d (setBit b) (fun c v => c.setReg r v)
            ∧ onMIx (.resBMIxCopy x b d r) x d (resBit b) (fun c v => c.setReg r v))
  )

/-! ## Control transfer -/

/-- The jumps: where PC goes taken and not taken, the 5 extra T-states of a taken relative jump, B counted
down by DJNZ; no flag changes (43 R400 to R406, 30 R187, R190). -/
def Obligations.Jumps : Prop :=
  ∀ s : State,
    let pc := s.cpu.pc
    let rel := fun e : Byte => pc + 2 + e.signExtend 16
    (∀ nn : Word, Completes (.jpNn nn) s fun t =>
      RegsOnly s t (fetchOpNn s) (pagingAfter1 s) (ran1 s nn))
    ∧ (∀ (cc : Cond) (nn : Word), Completes (.jpCNn cc nn) s fun t =>
      (condOf s.cpu.f cc → RegsOnly s t (fetchOpNn s) (pagingAfter1 s) (ran1 s nn))
        ∧ (¬ condOf s.cpu.f cc → RegsOnly s t (fetchOpNn s) (pagingAfter1 s) (ran1 s (pc + 3))))
    ∧ (∀ e : Byte, Completes (.jr e) s fun t =>
      RegsOnly s t (internal (pc + 1) 5 (fetchOpN s)) (pagingAfter1 s) (ran1 s (rel e)))
    ∧ (∀ (cc : JrCond) (e : Byte), Completes (.jrC cc e) s fun t =>
      (condOf s.cpu.f (jrAsCond cc) →
          RegsOnly s t (internal (pc + 1) 5 (fetchOpN s)) (pagingAfter1 s) (ran1 s (rel e)))
        ∧ (¬ condOf s.cpu.f (jrAsCond cc) →
          RegsOnly s t (fetchOpN s) (pagingAfter1 s) (ran1 s (pc + 2))))
    ∧ (Completes .jpHl s fun t => RegsOnly s t (fetchOp s) (pagingAfter1 s) (ran1 s s.cpu.hl))
    ∧ (∀ i : Idx, Completes (.jpIi i) s fun t =>
      RegsOnly s t (fetchOp2 s) (pagingAfter2 s) (ran2 s (s.cpu.idx i)))
    ∧ (∀ e : Byte, Completes (.djnz e) s fun t =>
      let bus := skipRead (pc + 1) (internalIr 1 (fetchOp s))
      (s.cpu.b = 1 → RegsOnly s t bus (pagingAfter1 s) { ran1 s (pc + 2) with b := 0 })
        ∧ (s.cpu.b ≠ 1 → RegsOnly s t (internal (pc + 1) 5 bus) (pagingAfter1 s)
            { ran1 s (rel e) with b := s.cpu.b - 1 }))

/-- Calls, restarts and returns: the return address pushed and popped with the push law, the conditional
forms taken and not taken, IFF1 restored from IFF2 by the interrupt returns (43 R407 to R413, 40 R250). -/
def Obligations.CallsAndReturns : Prop :=
  ∀ s : State,
    let pc := s.cpu.pc
    let sp := s.cpu.sp
    let called := fun (t bus : State) (back target : Word) =>
      StoresOnly s t (push back bus) (pagingAfter1 s) { ran1 s target with sp := sp - 2 }
        [(sp - 1, hiByte back), (sp - 2, loByte back)]
    let returned := fun (t bus : State) =>
      RegsOnly s t (skipRead (sp + 1) (skipRead sp bus)) (pagingAfter1 s)
        { ran1 s (wordAfter1 s sp) with sp := sp + 2 }
    let fromInterrupt := fun t : State =>
      RegsOnly s t (skipRead (sp + 1) (skipRead sp (fetchOp2 s))) (pagingAfter2 s)
        { ran2 s (wordAfter2 s sp) with sp := sp + 2, iff1 := s.cpu.iff2 }
    let callBus := internal (pc + 2) 1 (fetchOpNn s)
    (∀ nn : Word, Completes (.callNn nn) s fun t => called t callBus (pc + 3) nn)
    ∧ (∀ (cc : Cond) (nn : Word), Completes (.callCNn cc nn) s fun t =>
      (condOf s.cpu.f cc → called t callBus (pc + 3) nn)
        ∧ (¬ condOf s.cpu.f cc → RegsOnly s t (fetchOpNn s) (pagingAfter1 s) (ran1 s (pc + 3))))
    ∧ (∀ k : BitVec 3, Completes (.rst k) s fun t =>
      called t (internalIr 1 (fetchOp s)) (pc + 1) (BitVec.ofNat 16 (8 * k.toNat)))
    ∧ (Completes .ret s fun t => returned t (fetchOp s))
    ∧ (∀ cc : Cond, Completes (.retC cc) s fun t =>
      (condOf s.cpu.f cc → returned t (internalIr 1 (fetchOp s)))
        ∧ (¬ condOf s.cpu.f cc →
          RegsOnly s t (internalIr 1 (fetchOp s)) (pagingAfter1 s) (ran1 s (pc + 1))))
    ∧ Completes .reti s fromInterrupt ∧ Completes .retn s fromInterrupt
    ∧ (s.cfg.undoc = .execute → ∀ y, Completes (.retnDup y) s fromInterrupt)

/-- CPU control, and the encodings that only move PC: HALT, DI, EI and IM change their one piece of
state, NOP, an undefined ED opcode and an ignored prefix none but `eiBlock` of the last (43 R420 to R424,
R450, R451; 30 R186). -/
def Obligations.CpuControl : Prop :=
  ∀ s : State,
    let pc := s.cpu.pc
    let one := fun (i : Instr) (c : Cpu) =>
      Completes i s fun t => RegsOnly s t (fetchOp s) (pagingAfter1 s) c
    let two := fun (i : Instr) (c : Cpu) =>
      Completes i s fun t => RegsOnly s t (fetchOp2 s) (pagingAfter2 s) c
    one .nop (ran1 s (pc + 1)) ∧ one .halt { ran1 s (pc + 1) with halted := true }
    ∧ one .di { ran1 s (pc + 1) with iff1 := false, iff2 := false }
    ∧ one .ei { ran1 s (pc + 1) with iff1 := true, iff2 := true, eiBlock := true }
    ∧ two .im0 { ran2 s (pc + 2) with im := .im0 } ∧ two .im1 { ran2 s (pc + 2) with im := .im1 }
    ∧ two .im2 { ran2 s (pc + 2) with im := .im2 }
    ∧ (s.cfg.undoc = .execute →
      (∀ y : BitVec 3, two (.imDup y) { ran2 s (pc + 2) with
          im := [.im0, .im0, .im1, .im2, .im0, .im0, .im1, .im2].getD y.toNat .im0 })
      ∧ (∀ op : Byte, two (.noni op) (ran2 s (pc + 2)))
      ∧ (∀ y : Bool, two (.nopEd7 y) (ran2 s (pc + 2)))
      ∧ (∀ x : Idx, one (.ignoredPrefix x) { ran1 s (pc + 1) with eiBlock := true }))

/-! ## Input and output -/

/-- IN and OUT of one byte: the port address, the register and the flags, and that nothing changes but
what the port access itself changes (43 R430 to R432, R437 to R439). -/
def Obligations.ByteInputAndOutput : Prop :=
  ∀ s : State,
    let pc := s.cpu.pc
    let bc := s.cpu.bc
    let an := fun n : Byte => mkWord s.cpu.a n
    let inF := fun v : Byte => szxyF v false (parity v) false (flagC s.cpu.f)
    (∀ n : Byte, Completes (.inAN n) s fun t =>
      let v := ioRead (an n) (fetchOpN s)
      ReadsPort s t v.2 v.2 (pagingAfter1 s) { ran1 s (pc + 2) with a := v.1 } [])
    ∧ (∀ r : Reg8, Completes (.inRC r) s fun t =>
      let v := ioRead bc (fetchOp2 s)
      ReadsPort s t v.2 v.2 (pagingAfter2 s)
        ({ ran2 s (pc + 2) with f := inF v.1 }.setReg r v.1) [])
    ∧ (s.cfg.undoc = .execute → Completes .inFC s fun t =>
      let v := ioRead bc (fetchOp2 s)
      ReadsPort s t v.2 v.2 (pagingAfter2 s) { ran2 s (pc + 2) with f := inF v.1 } [])
    ∧ (∀ n : Byte, Completes (.outNA n) s fun t =>
      let u := ioWrite (an n) s.cpu.a (fetchOpN s)
      WritesPort s t u u (ran1 s (pc + 2)))
    ∧ (∀ r : Reg8, Completes (.outCR r) s fun t =>
      let u := ioWrite bc (s.cpu.reg r) (fetchOp2 s)
      WritesPort s t u u (ran2 s (pc + 2)))
    ∧ (s.cfg.undoc = .execute → Completes .outC0 s fun t =>
      let u := ioWrite bc 0x00 (fetchOp2 s)
      WritesPort s t u u (ran2 s (pc + 2)))

/-- INI, INIR, IND, INDR, OUTI, OTIR, OUTD and OTDR (40 R269; 43 R433 to R436, R440 to R443;
draws are free values, log 7). -/
def Obligations.BlockInputAndOutput : Prop :=
  ∀ s : State,
    blockInClaim 1 1 false .ini s ∧ blockInClaim 1 1 true .inir s
    ∧ blockInClaim 0xFFFF 0xFF false .ind s ∧ blockInClaim 0xFFFF 0xFF true .indr s
    ∧ blockOutClaim 1 false .outi s ∧ blockOutClaim 1 true .otir s
    ∧ blockOutClaim 0xFFFF false .outd s ∧ blockOutClaim 0xFFFF true .otdr s

/-- A port read answers from the first device that decodes the port, and changes nothing but what that
device's read changes (20 R140, 45 R502, R503, 46 R552). -/
def Obligations.PortReads : Prop :=
  ∀ (p : Word) (s : State),
    let r := portRead p s
    let ayPort := (archConfig s.cfg).hasAy = true ∧ p.getLsbD 15 = true ∧ p.getLsbD 14 = true
      ∧ p.getLsbD 1 = false
    (betaTakes s p → r = ((s.disk.portRead s.cfg s.clock.absTime (loByte p)).1,
      { s with disk := (s.disk.portRead s.cfg s.clock.absTime (loByte p)).2 }))
    ∧ (¬ betaTakes s p → p.getLsbD 0 = false →
      let tape := s.tape.catchUp s.cfg s.clock.absTime
      r.2 = { s with tape := tape } ∧ r.1.getLsbD 7 = true ∧ r.1.getLsbD 5 = true
        ∧ r.1.getLsbD 6 = (if tape.status = .loading then tape.earBit else s.ula.earOut)
        ∧ ∀ j, j < 5 → r.1.getLsbD j
            = decide (∀ k : Fin 8, p.getLsbD (8 + k.val) = false → s.ula.keyMatrix[k].getLsbD j = true))
    ∧ (¬ betaTakes s p → p.getLsbD 0 = true → ayPort →
      r.2 = s ∧ ∀ i : Fin 14, s.ay.selected.toNat = i.val → r.1 = s.ay.regs[i])
    ∧ (¬ betaTakes s p → p.getLsbD 0 = true → ayPort → 13 < s.ay.selected.toNat → r.1 = 0xFF)
    ∧ (¬ betaTakes s p → p.getLsbD 0 = true → ¬ ayPort → s.cfg.kempston = true → loByte p = 0x1F →
      r = (s.ula.kempston, s))
    ∧ (¬ betaTakes s p → p.getLsbD 0 = true → ¬ ayPort →
      (s.cfg.kempston = false ∨ loByte p ≠ 0x1F) → r = (floatingBus s s.clock.tstates, s))

/-- A port write reaches every device that decodes the port, the Betadisk interface alone where it takes
the access, and nothing else changes (20 R106, R141, 45 R500, 46 R551, R554). -/
def Obligations.PortWrites : Prop :=
  ∀ (p : Word) (v : Byte) (s : State),
    (betaTakes s p →
      portWrite p v s = { s with disk := s.disk.portWrite s.cfg s.clock.absTime (loByte p) v })
    ∧ (¬ betaTakes s p →
      let ac := archConfig s.cfg
      portWrite p v s = { s with
        ula := if p.getLsbD 0 then s.ula else
          { s.ula with borderColour := v.extractLsb' 0 3, micOut := v.getLsbD 3,
                       earOut := v.getLsbD 4 },
        paging :=
          if ac.hasPaging = true ∧ p.getLsbD 15 = false ∧ p.getLsbD 1 = false
            ∧ s.paging.port7FFD.getLsbD 5 = false
          then pageTable s.cfg v s.paging.trdosActive else s.paging,
        ay :=
          if ac.hasAy = true ∧ p.getLsbD 15 = true ∧ p.getLsbD 1 = false then
            (if p.getLsbD 14 then { s.ay with selected := v }
             else s.ay.write s.cfg s.clock.tstates v)
          else s.ay })

/-- The floating bus of the 48K and the 128K: the bitmap and attribute bytes of the screen bank in the
first four T-states of each eight inside the window, 0xFF elsewhere; 0xFF always on the Pentagon; on the TK
and the +2A/+3 the open function of FLOAT_START, the frame time and the screen memory, or 0xFF where
HAS_FLOATING_BUS is false (20 R107, R150, R151; 92 D70, 93 I24). -/
def Obligations.FloatingBusValues : Prop :=
  (∀ (s : State) (start y x : Nat), s.cfg.arch = .spec48 ∨ s.cfg.arch = .spec128 →
      (archConfig s.cfg).floatStart = some start → y < 192 → x < 128 →
      let bank := if (archConfig s.cfg).hasPaging && s.paging.port7FFD.getLsbD 3 then 7 else 5
      floatingBus s (start + y * (archConfig s.cfg).tLine + x) =
        match x % 8 with
        | 0 => bitmapByte s.ram bank y (2 * (x / 8))
        | 1 => attrByte s.ram bank y (2 * (x / 8))
        | 2 => bitmapByte s.ram bank y (2 * (x / 8) + 1)
        | 3 => attrByte s.ram bank y (2 * (x / 8) + 1)
        | _ => 0xFF)
    ∧ (∀ (s : State) (start ts : Nat), s.cfg.arch = .spec48 ∨ s.cfg.arch = .spec128 →
      (archConfig s.cfg).floatStart = some start →
      (ts < start ∨ 192 ≤ (ts - start) / (archConfig s.cfg).tLine
        ∨ 128 ≤ (ts - start) % (archConfig s.cfg).tLine) → floatingBus s ts = 0xFF)
    ∧ (∀ (s : State) (ts : Nat), s.cfg.arch = .pentagon → floatingBus s ts = 0xFF)
    ∧ (∀ (s : State) (ts : Nat), s.cfg.arch = .tk ∨ s.cfg.arch = .plus2A3 →
      let ac := archConfig s.cfg
      let bank := if ac.hasPaging && s.paging.port7FFD.getLsbD 3 then 7 else 5
      floatingBus s ts =
        if ac.hasFloatingBus then
          Config.floatingBusFn (floatVariant s.cfg.arch) ac.floatStart ts bank s.ram
        else 0xFF)

/-! ## Raster -/

/-- Moving time by `k` paints exactly the pixels whose unit time lies in the span, with what the state
shows at the call, and no other pixel; a pixel not painted since reset has its colour in the drawn picture
(45 R511, R513 to R517; 10 R46). The painted pixels as a list over the drawn picture, and the raster as units
per T-state, are the model's form (log 8, log 21). -/
def Obligations.AdvancePaintsItsSpan : Prop :=
  ∀ (s : State) (k x y : Nat), s.cfg.arch ≠ .tk → cellsWf none s.framebuffer.painted = true →
    x < (geometry s.cfg.resMode).width → y < (geometry s.cfg.resMode).height →
    let at_ := y * (geometry s.cfg.resMode).width + x
    let t := advance k s
    let inSpan := (s.clock.tstates : Int) ≤ unitTime s.cfg x y ∧ unitTime s.cfg x y < s.clock.tstates + k
    t.framebuffer.pixel at_ = (if inSpan then pixelShows s x y else s.framebuffer.pixel at_)
      ∧ cellsGet none t.framebuffer.painted at_ =
        (if inSpan then some (pixelShows s x y) else cellsGet none s.framebuffer.painted at_)
      ∧ t.framebuffer.drawn = s.framebuffer.drawn
      ∧ (cellsGet none s.framebuffer.painted at_ = none →
        s.framebuffer.pixel at_ = Config.drawPixel s.framebuffer.drawn at_)

/-! ## AY -/

/-- The AY registers through the ports: a byte written reads back masked, the indices past 13 are ignored
and read 0xFF, and a write of register 13 restarts the envelope with a period of at least 1 (46 R550 to
R556). -/
def Obligations.AyRegisterRoundTrip : Prop :=
  ∀ (s : State) (i v : Byte), (archConfig s.cfg).hasAy = true →
    let t := portWrite 0xBFFD v (portWrite 0xFFFD i s)
    let masks := [0xFF, 0x0F, 0xFF, 0x0F, 0xFF, 0x0F, 0x1F, 0xFF, 0x1F, 0x1F, 0x1F, 0xFF, 0xFF, 0x0F]
    t.ay.selected = i
      ∧ (portRead 0xFFFD t).1 = (if i.toNat ≤ 13 then v &&& masks.getD i.toNat 0 else 0xFF)
      ∧ (∀ j : Fin 14, j.val ≠ i.toNat → t.ay.regs[j] = s.ay.regs[j])
      ∧ (i.toNat = 13 → t.ay.envPos = 0 ∧ t.ay.envHeld = false
          ∧ t.ay.envCnt.toNat = max (s.ay.regs[11].toNat + 256 * s.ay.regs[12].toNat) 1)

/-- The counters of a chip step, each reloaded when it runs out: a tone channel's bit toggles once per
max(TP, 1) chip steps, the noise register shifts once per 2 max(NP, 1), the envelope advances once per
max(EP, 1); a chip step changes nothing else (46 R555, R561). -/
def Obligations.AyTonePeriod : Prop :=
  (∀ (ay : Ay) (c : Fin 3),
    let n := max ay.toneCnt[c].toNat 1
    (∀ k, k < n → (Ay.chipStep^[k] ay).toneBit[c] = ay.toneBit[c])
      ∧ (Ay.chipStep^[n] ay).toneBit[c] = !ay.toneBit[c]
      ∧ (Ay.chipStep^[n] ay).toneCnt[c].toNat
          = max ((ay.reg (2 * c.val)).toNat + 256 * (ay.reg (2 * c.val + 1)).toNat) 1)
  ∧ (∀ ay : Ay,
    let n := max ay.noiseCnt 1
    let next := (ay.lfsr >>> 1) ^^^ (if ay.lfsr.getLsbD 0 = true then 0x14000 else 0)
    (∀ k, k < n → (Ay.chipStep^[k] ay).lfsr = ay.lfsr ∧ (Ay.chipStep^[k] ay).noiseBit = ay.noiseBit)
      ∧ (Ay.chipStep^[n] ay).lfsr = next ∧ (Ay.chipStep^[n] ay).noiseBit = next.getLsbD 0
      ∧ (Ay.chipStep^[n] ay).noiseCnt = 2 * max ay.regs[6].toNat 1)
  ∧ (∀ ay : Ay,
    let n := max ay.envCnt.toNat 1
    let at_ := fun a : Ay => (a.envPos, a.envHeld)
    (∀ k, k < n → at_ (Ay.chipStep^[k] ay) = at_ ay)
      ∧ at_ (Ay.chipStep^[n] ay) = at_ ay.envAdvance
      ∧ (Ay.chipStep^[n] ay).envCnt.toNat = max (ay.regs[11].toNat + 256 * ay.regs[12].toNat) 1)
  ∧ (∀ ay : Ay, ay.chipStep =
      { ay with toneCnt := ay.chipStep.toneCnt, toneBit := ay.chipStep.toneBit,
                noiseCnt := ay.chipStep.noiseCnt, lfsr := ay.chipStep.lfsr,
                noiseBit := ay.chipStep.noiseBit, envCnt := ay.chipStep.envCnt,
                envPos := ay.chipStep.envPos, envHeld := ay.chipStep.envHeld })
  ∧ (∀ (ay : Ay) (i : Fin 14), ay.reg i.val = ay.regs[i])

/-- The envelope from its start: the position moves by one up to 63, then wraps for shapes 8, 10, 12 and
14 and is held at 63 for the others; the level at every position of every shape (46 R565 to R567). -/
def Obligations.EnvelopeWrapsOrHolds : Prop :=
  (∀ (ay : Ay) (n : Nat), ay.envPos = 0 → ay.envHeld = false →
    let t := Ay.envAdvance^[n] ay
    if ay.shape ∈ [8, 10, 12, 14] then t.envPos.toNat = n % 64 ∧ t.envHeld = false
    else t.envPos.toNat = min n 63 ∧ t.envHeld = decide (64 ≤ n))
  ∧ (∀ shape p, shape < 16 → p < 64 → envLevel shape p ≤ 31)
  ∧ (∀ shape p, shape < 16 → p < 64 → envLevel shape p =
      if p < 32 then (if shape / 4 % 2 = 1 then p else 31 - p)
      else if shape = 8 ∨ shape = 14 then 63 - p
      else if shape = 10 ∨ shape = 12 then p - 32
      else if shape = 11 ∨ shape = 13 then 31
      else 0)
  ∧ envLevel 11 63 = 31 ∧ envLevel 13 63 = 31
  ∧ (∀ shape ∈ [0, 1, 2, 3, 4, 5, 6, 7, 9, 15], envLevel shape 63 = 0)

/-- What a sample is: CT chip steps, the three channels' amplitudes after each summed, and the sum divided
by CT; the sum is at most 255 per chip step where VOL_TABLE meets its constraints. A catch-up makes exactly
the samples due before its time; the end of a frame makes the rest, puts the frame's samples out and leaves
the buffer empty, and a frame has NS of them; zeros where the machine has no AY (46 R560, R570 to R572, R580
to R582; the stored output: log 23). -/
def Obligations.AySampleStream : Prop :=
  (
    ∀ (vols : List Nat) (ay : Ay) (n : Nat), volTableOk vols = true → ampSum vols ay n ≤ 255 * n
  ) ∧ (
    ∀ (c : Cfg) (ay : Ay),
      let ct := (archConfig c).ayHz / c.outHz / 8
      ay.genSample c =
        { Ay.chipStep^[ct] ay with
          pcm := ay.pcm ++ [BitVec.ofNat 8 (ampSum c.volTable ay ct / ct)],
          sampleIndex := ay.sampleIndex + 1 }
  ) ∧ (
    ∀ (c : Cfg) (ay : Ay) (t : Nat),
      let ns := c.outHz * (archConfig c).usFrame / 1000000
      let due := fun i => i < ns ∧ i * (archConfig c).tFrame / ns < t
      ∃ n, ay.catchUp c t = (Ay.genSample c)^[n] ay
        ∧ (∀ k, k < n → due (ay.sampleIndex + k)) ∧ ¬ due (ay.sampleIndex + n)
  ) ∧ (
    ∀ (c : Cfg) (ay : Ay),
      let ns := c.outHz * (archConfig c).usFrame / 1000000
      let done := (Ay.genSample c)^[ns - ay.sampleIndex] ay
      let t := ay.finishFrame c
      ((archConfig c).hasAy = false → t = { ay with pcmOut := List.replicate ns 0x00 })
        ∧ ((archConfig c).hasAy = true →
            t = { done with pcmOut := done.pcm, pcm := [], sampleIndex := 0 } ∧ ay.pcm <+: t.pcmOut)
        ∧ (ay.pcm.length = ay.sampleIndex → ay.sampleIndex ≤ ns → t.pcmOut.length = ns)
  )

/-! ## Tape -/

/-- The pulse train: a block begins at the first length field that is not 0 and has its pilot count by its
flag byte; the pilot's `n` pulses toggle EAR `n` times and end in the first sync pulse; the two sync pulses
lead to the first data byte; a data byte takes 16 pulses, two for each bit from the most significant, 1710
T-states each for a 1 and 855 for a 0, and leads to the next byte or, the block's last, to the pause; the
pause ends in the next block or in the end of the tape. A catch-up makes every edge that is due and no other
(48 R700 to R708, R715, R716). A last block cut off before its first byte plays no byte: the model's reading
(log 28). -/
def Obligations.TapePulseTrain : Prop :=
  (
    (∀ (c : Cfg) (now : Nat) (t : Tape), t.phase = .sync → 1 ≤ t.pulseCount →
      (Tape.edge c now)^[t.pulseCount] t =
        { t with anchor := t.anchor + t.pulseCount * t.pulseLen,
                 earBit := t.earBit ^^ decide (t.pulseCount % 2 = 1),
                 pulseCount := 0, phase := .sync1, pulseLen := 667 })
    ∧ (∀ (c : Cfg) (now : Nat) (t : Tape), t.phase = .sync1 → t.pulseLen = 667 →
      (Tape.edge c now)^[2] t =
        if t.pos = t.blockEnd then
          { t with anchor := t.anchor + 1402, phase := .pause, curByte := t.byteAt t.pos,
                   bitMask := 0x80, bitHalf := false, pulseLen := (archConfig c).cpuHz }
        else
          { t with anchor := t.anchor + 1402, phase := .data, curByte := t.byteAt t.pos, bitMask := 0x80,
                   bitHalf := false,
                   pulseLen := if (t.byteAt t.pos).getLsbD 7 then 1710 else 855 })
  ) ∧ (
    ∀ (c : Cfg) (now : Nat) (t : Tape), t.phase = .data → t.bitHalf = false → t.bitMask = 0x80 →
      t.pulseLen = (if t.curByte.getLsbD 7 then 1710 else 855) →
      let ones := ((List.range 8).filter fun i => t.curByte.getLsbD i).length
      let next := t.byteAt (t.pos + 1)
      let u := { t with anchor := t.anchor + (ones * 3420 + (8 - ones) * 1710), pos := t.pos + 1 }
      (Tape.edge c now)^[16] t =
        if t.pos + 1 = t.blockEnd then
          { u with bitMask := 0x00, phase := .pause, pulseLen := (archConfig c).cpuHz }
        else { u with curByte := next, pulseLen := if next.getLsbD 7 then 1710 else 855 }
  ) ∧ (
    (∀ (c : Cfg) (now : Nat) (t : Tape), t.phase = .pause →
      t.edge c now =
        { t with anchor := t.anchor + t.pulseLen, earBit := !t.earBit }.beginBlock now t.blockEnd
          (t.anchor + t.pulseLen))
    ∧ (∀ (now p a : Nat) (t : Tape),
      let len := (t.byteAt p).toNat + 256 * (t.byteAt (p + 1)).toNat
      let pilot := if (t.byteAt (p + 2)).toNat < 0x80 then 8063 else 3223
      t.beginBlock now p a =
        if t.size < p + 2 then rewound t.image now
        else if len = 0 then t.beginBlock now (p + 2) a
        else
          { t with pos := p + 2, blockEnd := min (p + 2 + len) t.size, hdrPulses := pilot,
                   pulseCount := pilot, phase := .sync, pulseLen := 2168, anchor := a })
  ) ∧ (
    ∀ (c : Cfg) (now : Nat) (t : Tape), 1 ≤ t.pulseLen → 1 ≤ (archConfig c).cpuHz →
      let due := fun u : Tape => u.status = .loading ∧ u.anchor + u.pulseLen ≤ now
      ∃ n, t.catchUp c now = (Tape.edge c now)^[n] t
        ∧ (∀ k, k < n → due ((Tape.edge c now)^[k] t)) ∧ ¬ due ((Tape.edge c now)^[n] t)
  )

/-! ## WD1793 -/

/-- The eleven WD1793 commands, and the byte steps that carry them out: how they are started; that a
catch-up runs the byte steps due, in order; the index bookkeeping, which alone runs while held in reset; the
delays in byte steps; the stepping of the head, the ID search, the sector transfers and the Type III
commands, one micro-state at a time (30 R205; 47 R620, R630 to R633, R635 to R655). A command as an
instruction and the fields `idCapture`, `fastXfer` and `parser` are the model's (log 12, log 15), as are the
bytes no sector gives (log 16), the controller held in reset (log 24) and the split of Take (log 29). -/
def Obligations.WdCommands : Prop :=
  (∀ s : State,
    (∀ (h v : Bool) (r : BitVec 2),
      let low := BitVec.ofBool h ++ BitVec.ofBool v ++ r
      wdClaim (.wdRestore h v r) (0b0000#4 ++ low) s
        ∧ wdClaim (.wdSeek h v r) (0b0001#4 ++ low) s
        ∧ ∀ u : Bool, wdClaim (.wdStep u h v r) (0b001#3 ++ BitVec.ofBool u ++ low) s
          ∧ wdClaim (.wdStepIn u h v r) (0b010#3 ++ BitVec.ofBool u ++ low) s
          ∧ wdClaim (.wdStepOut u h v r) (0b011#3 ++ BitVec.ofBool u ++ low) s)
    ∧ (∀ m side e c : Bool,
      let low := BitVec.ofBool m ++ BitVec.ofBool side ++ BitVec.ofBool e ++ BitVec.ofBool c
      wdClaim (.wdReadSector m side e c) (0b100#3 ++ low ++ 0#1) s
        ∧ ∀ a0 : Bool, wdClaim (.wdWriteSector m side e c a0) (0b101#3 ++ low ++ BitVec.ofBool a0) s)
    ∧ (∀ e : Bool,
      wdClaim (.wdReadAddress e) (0b11000#5 ++ BitVec.ofBool e ++ 0#2) s
        ∧ wdClaim (.wdReadTrack e) (0b11100#5 ++ BitVec.ofBool e ++ 0#2) s
        ∧ wdClaim (.wdWriteTrack e) (0b11110#5 ++ BitVec.ofBool e ++ 0#2) s)
    ∧ (∀ cond : BitVec 4, wdClaim (.wdForceInterrupt cond) (0b1101#4 ++ cond) s))
  ∧ (∀ (c : Cfg) (now : Nat) (d : Disk),
      let n := now / c.diskByteTstates
      let e := byteStepsFrom c d.wd.lastStep (n - d.wd.lastStep) d
      d.catchUp c now = { e with wd := { e.wd with lastStep := max d.wd.lastStep n } })
  ∧ (∀ (c : Cfg) (ms : Nat), 1 ≤ c.diskByteTstates →
      let step := 1000 * c.diskByteTstates
      ms * (archConfig c).cpuHz ≤ msToSteps c ms * step
        ∧ msToSteps c ms * step < ms * (archConfig c).cpuHz + step)
  ∧ ((List.range 4).map (wdStepMs 0) = [6, 12, 20, 30] ∧ (List.range 4).map (wdStepMs 1) = [3, 6, 10, 15])
  ∧ (∀ (c : Cfg) (k : Nat) (d : Disk),
      (d.wd.heldInReset = true → d.byteStep c k = { d with wd := indexed k d })
        ∧ (d.wd.heldInReset = false →
          (d.wd.state = .idle → byteStepGives c k d d.drives (indexed k d))
            ∧ wdTypeIClaim c k d ∧ wdSearchClaim c k d ∧ wdSectorClaim c k d ∧ wdTrackClaim c k d))
  ∧ ∀ (d : Disk) (v : Byte), parserClaim d v

/-- The reads of the five Betadisk ports: the value, and that a status read clears INTRQ alone and a data
read DRQ alone; the status bits by the status type (47 R601, R615 to R617; 20 R165). -/
def Obligations.WdPortReads : Prop :=
  ∀ (c : Cfg) (now : Nat) (d : Disk),
    let e := d.catchUp c now
    let st := e.wd.statusReg
    d.portRead c now 0x3F = (e.wd.trackReg, e) ∧ d.portRead c now 0x5F = (e.wd.sectorReg, e)
    ∧ d.portRead c now 0x7F = (e.wd.dataReg, { e with wd := { e.wd with drq := false } })
    ∧ ((d.portRead c now 0xFF).2 = e
      ∧ (d.portRead c now 0xFF).1.toNat
          = (if e.wd.intrq then 0x80 else 0) + (if e.wd.drq then 0x40 else 0) + 0x3F)
    ∧ (let r := d.portRead c now 0x1F
      r.2 = { e with wd := { e.wd with intrq := false } }
        ∧ r.1.getLsbD 7 = (!e.ready) ∧ r.1.getLsbD 4 = st.getLsbD 4 ∧ r.1.getLsbD 3 = st.getLsbD 3
        ∧ r.1.getLsbD 0 = st.getLsbD 0
        ∧ (e.wd.statusType = .typeI →
            r.1.getLsbD 6 = (e.ready && e.drive.writeProtected) ∧ r.1.getLsbD 5 = e.wd.headLoaded
              ∧ r.1.getLsbD 2 = decide (e.drive.headTrack = 0)
              ∧ r.1.getLsbD 1
                  = (e.ready && decide (now / c.diskByteTstates % 6250 < 63)))
        ∧ (e.wd.statusType = .typeIIIII →
            r.1.getLsbD 6 = st.getLsbD 6 ∧ r.1.getLsbD 5 = st.getLsbD 5
              ∧ r.1.getLsbD 2 = st.getLsbD 2 ∧ r.1.getLsbD 1 = e.wd.drq))

/-- The system register: a write with bit 2 clear holds the controller in reset with the reset values, the
next with bit 2 set starts a RESTORE at the slowest rate, and the drives are not touched. The writes of the
track, sector and data registers: after the catch-up the register takes the byte, a data write clears DRQ,
nothing else changes, and held in reset nothing at all (47 R602, R603, R617, R660, R661; the model's own
bookkeeping: log 15, log 24). -/
def Obligations.WdSystemRegister : Prop :=
  (∀ (c : Cfg) (now : Nat) (v : Byte) (d : Disk),
    let e := d.catchUp c now
    let t := d.portWrite c now 0xFF v
    t.wd.betaSys = v ∧ t.drives = e.drives ∧ t.wd.lastStep = e.wd.lastStep
    ∧ (v.getLsbD 2 = false →
        t.wd = { cmdReg := 0x03, trackReg := 0x00, sectorReg := 0x01, dataReg := 0x00,
                 statusReg := 0x00, drq := false, intrq := false, state := .idle, stepState := 0,
                 dire := true, dsr := 0, delay := 0, revCount := 0, headLoaded := false,
                 idleRevs := 0, statusType := .typeI, intCond := 0, byteIndex := 0,
                 idBuf := Vector.replicate 6 0, markShift := 0, lostData := false,
                 lastStep := e.wd.lastStep, heldInReset := true, betaSys := v,
                 idCapture := false, fastXfer := false, parser := TrackParser.reset })
    ∧ (v.getLsbD 2 = true → e.wd.heldInReset = true →
        t.wd.heldInReset = false ∧ t.wd.cmdReg = 0x03 ∧ t.wd.statusReg = 0x01
          ∧ t.wd.state = .t1Decide ∧ t.wd.trackReg = 0xFF)
    ∧ (v.getLsbD 2 = true → e.wd.heldInReset = false → t.wd = { e.wd with betaSys := v }))
  ∧ (∀ (c : Cfg) (now : Nat) (v : Byte) (d : Disk),
    let e := d.catchUp c now
    (e.wd.heldInReset = true → ∀ lo ∈ [0x1F, 0x3F, 0x5F, 0x7F], d.portWrite c now lo v = e)
    ∧ (e.wd.heldInReset = false →
        d.portWrite c now 0x3F v = { e with wd := { e.wd with trackReg := v } }
          ∧ d.portWrite c now 0x5F v = { e with wd := { e.wd with sectorReg := v } }
          ∧ d.portWrite c now 0x7F v = { e with wd := { e.wd with dataReg := v, drq := false } }))

/-- The end of a command; a byte delivered to the host and a byte taken from it, LOST DATA latched
exactly where the previous request was not served (47 R634, R635). That the request for the next byte to be
taken is raised by the state that takes it, not here, is the model's split of Take (log 29). -/
def Obligations.WdEndAndLostData : Prop :=
  (
    ∀ w : Wd, w.finish =
      { w with statusReg := w.statusReg &&& 0xFE, drq := false, intrq := true, state := .idle,
               idleRevs := 0 }
  ) ∧ (
    ∀ (w : Wd) (b : Byte),
      (w.drq = false → w.deliver b = { w with dataReg := b, drq := true } ∧ w.take = (w.dataReg, w))
      ∧ (w.drq = true →
        w.deliver b = { w with lostData := true, statusReg := w.statusReg ||| 0x04, dataReg := b }
          ∧ w.take = (0x00, { w with lostData := true, statusReg := w.statusReg ||| 0x04 }))
  )

/-- The track under the head: on a formatted track sector R's ID field and its 256 data bytes stand at
their places; an unformatted track is all 0x4E, and a unit that is not ready delivers 0x00 (47 R604, R621,
R622). Where a sector's bytes stand in a TRD image, in an SCL image and on an SCL disk's track 0 (47 R611 to
R614; numbers that do not fit their field: log 17). A READ SECTOR transfer that the host does not serve
delivers the sector's bytes one a byte step and loses every one but the first, the first too if a request
was pending (47 R635, R646). -/
def Obligations.TrackLayout : Prop :=
  (∀ (d : Disk) (r i : Nat), 1 ≤ r → r ≤ 16 → i < 256 →
    let start := 80 + 372 * (r - 1)
    (d.formatted = true →
      d.trackByteAt (start + 60 + i) = sectorData d.drive d.cyl d.wd.side r i
        ∧ [d.trackByteAt (start + 12), d.trackByteAt (start + 13), d.trackByteAt (start + 14),
            d.trackByteAt (start + 15), d.trackByteAt (start + 16), d.trackByteAt (start + 17),
            d.trackByteAt (start + 18), d.trackByteAt (start + 19)]
          = [0xA1, 0xA1, 0xA1, 0xFE, byteOf d.cyl, byteOf d.wd.side, byteOf r, 0x01]
        ∧ d.trackByteAt (start + 59) = 0xFB)
    ∧ (d.ready = true → d.formatted = false → ∀ p, d.trackByteAt p = 0x4E)
    ∧ (d.ready = false → ∀ p, d.trackByteAt p = 0x00))
  ∧ (∀ d : Disk,
    d.wd.unit.val = d.wd.betaSys.toNat % 4 ∧ d.drive = d.drives[d.wd.unit]
      ∧ d.ready = d.drive.available ∧ d.cyl = d.drive.headTrack
      ∧ d.wd.side = (if d.wd.betaSys.getLsbD 4 then 0 else 1)
      ∧ (d.formatted = true ↔ d.drive.available = true ∧ d.drive.headTrack < d.drive.tracks
          ∧ d.wd.side < d.drive.sides))
  ∧ (∀ (dr : Drive) (c s r i : Nat), dr.kind = .trd →
    sectorData dr c s r i = dr.image.byte (((c * dr.sides + s) * 16 + (r - 1)) * 256 + i))
  ∧ (∀ (dr : Drive) (t0 : Image) (c s r i : Nat), dr.kind = .scl → dr.sclTrack0 = some t0 →
    let n := (dr.image.byte 8).toNat
    let l := (c * 2 + s) * 16 + (r - 1)
    let off := (l - 16) * 256 + i
    sectorData dr c s r i =
      if l < 16 then t0.byte (l * 256 + i)
      else if off < 256 * (sclStart dr.image n - 16) then dr.image.byte (9 + 14 * n + off)
      else 0x00)
  ∧ (∀ (img : Image) (o : Nat), (img.byte 8).toNat ≤ 128 → o < 4096 →
    let n := (img.byte 8).toNat
    let free := sclStart img n
    (sclTrack0Of img).size = 4096
      ∧ (sclTrack0Of img).byte o =
        if o < 16 * n then
          (if o % 16 = 14 then BitVec.ofNat 8 (sclStart img (o / 16) % 16)
           else if o % 16 = 15 then BitVec.ofNat 8 (sclStart img (o / 16) / 16)
           else img.byte (9 + 14 * (o / 16) + o % 16))
        else if o = 0x8E1 then BitVec.ofNat 8 (free % 16)
        else if o = 0x8E2 then BitVec.ofNat 8 (free / 16)
        else if o = 0x8E3 then 0x16
        else if o = 0x8E4 then BitVec.ofNat 8 n
        else if o = 0x8E5 then BitVec.ofInt 8 (2560 - free)
        else if o = 0x8E6 then BitVec.ofInt 8 ((2560 - free) / 256)
        else if o = 0x8E7 then 0x10
        else if (0x8EA ≤ o ∧ o ≤ 0x8F2) ∨ (0x8F5 ≤ o ∧ o ≤ 0x8FC) then 0x20
        else 0x00)
  ∧ (∀ (img : Image) (o : Nat), o < img.size → img.byte o = memGet img.cells o)
  ∧ (∀ (c : Cfg) (d : Disk) (k r n : Nat), d.formatted = true → d.wd.heldInReset = false →
    d.wd.state = .t2Read → d.wd.byteIndex = 0 → d.wd.fastXfer = false → 1 ≤ r → r ≤ 16 →
    (k + 1) % 6250 = 80 + 372 * (r - 1) + 60 → n < 256 →
    let e := byteStepsFrom c k (n + 1) d
    let lost := d.wd.drq || decide (1 ≤ n)
    e.drives = d.drives ∧ e.wd.dataReg = sectorData d.drive d.cyl d.wd.side r n ∧ e.wd.drq = true
      ∧ e.wd.byteIndex = n + 1 ∧ e.wd.state = (if n = 255 then .t2Crc else .t2Read)
      ∧ e.wd.lostData = (d.wd.lostData || lost)
      ∧ e.wd.statusReg = if lost then d.wd.statusReg ||| 0x04 else d.wd.statusReg)

/-! ## Host actions -/

/-- The host's actions at a frame boundary: each is one step that takes the head of the queue. An insertion
of a missing or invalid image, one into a unit past 3, an inconsistent snapshot and SetKempston without the
port change nothing but the success note; every other action sets what its rule gives and nothing else
(44 R480, R481; 46 R554; 47 R610 to R612, R670 to R672; 48 R712 to R715; 70 R780). The queue,
`frameBoundary` and `hostOk` are the model's (log 9), as are the form of the picture drawn at Reset (log 8), the
order of the draws (log 7), the order of a snapshot's AY registers (log 25) and the record of an ejected unit
(log 26). -/
def Obligations.HostActions : Prop :=
  ∀ (s : State) (a : HostAction) (rest : List HostAction), cfgAdmitted s.cfg = true →
    s.frameBoundary = true → s.hostQueue = a :: rest →
    let q := { s with hostQueue := rest, hostOk := true }
    let failed := { s with hostQueue := rest, hostOk := false }
    let now := s.clock.absTime
    let d := s.disk.catchUp s.cfg now
    let tape := s.tape.catchUp s.cfg now
    ∃ t, step s = .next t ∧ t.hostQueue = rest ∧ t.rom = s.rom ∧ t.cfg = s.cfg
      ∧ (a = .frameStep → t = { q with frameBoundary := false })
      ∧ (∀ m, a = .setKeys m → t = { q with ula := { s.ula with keyMatrix := m } })
      ∧ (∀ b, a = .setKempston b →
          t = if s.cfg.kempston then { q with ula := { s.ula with kempston := b } } else failed)
      ∧ (a = .pulseNmi → t = { q with cpu := { s.cpu with nmiPending := true } })
      ∧ (∀ u image wp, a = .insertDisk u image wp → 4 ≤ u ∨ image = none → t = failed)
      ∧ (∀ (u : Fin 4) (img : Image) (wp : Bool), a = .insertDisk u.val (some img) wp →
          match mounted img.normal wp d.drives[u].headTrack with
          | none => t = failed
          | some dr =>
            let wakes := d.wd.unit = u ∧ d.drives[u].available = false ∧ d.wd.intCond.getLsbD 0 = true
            t = { q with disk := { drives := d.drives.set u dr,
                                   wd := { d.wd with intrq := d.wd.intrq || decide wakes } } })
      ∧ (∀ (img : Image) (o : Nat), (img.normal).size = img.size
          ∧ (o < img.size → img.normal.byte o = lastListed img.cells o))
      ∧ (∀ u, a = .ejectDisk u → 4 ≤ u → t = failed)
      ∧ (∀ u : Fin 4, a = .ejectDisk u.val →
          let empty := { available := false, kind := .trd, tracks := 80, sides := 2,
                         image := { size := 0, cells := [] }, writeProtected := false,
                         headTrack := d.drives[u].headTrack, sclTrack0 := none }
          let intrq := d.wd.intrq || (d.drives[u].available && d.wd.intCond.getLsbD 1)
          t = { q with disk := {
                drives := d.drives.set u empty,
                wd :=
                  if d.wd.unit ≠ u then d.wd
                  else if d.wd.state = .idle then { d.wd with intrq := intrq }
                  else { d.wd with intrq := intrq, statusReg := d.wd.statusReg &&& 0xFE, state := .idle,
                                   drq := false } } })
      ∧ (a = .tapeInsert none → t = failed)
      ∧ (∀ img, a = .tapeInsert (some img) → t = { q with tape := rewound (some img.normal) now })
      ∧ (a = .tapePlay → t =
          { q with tape :=
              if tape.status = .stopped ∧ s.tape.image ≠ none then
                { tape with status := .loading, earBit := false }.beginBlock now tape.pos now
              else tape })
      ∧ (a = .tapeStop → t = { q with tape := rewound s.tape.image now })
      ∧ (∀ snap, a = .loadSnapshot snap →
          (snap.consistent s.cfg = true ↔
            snap.pc < 65536 ∧ snap.sp < 65536 ∧ snap.im ≤ 2 ∧ snap.port7FFD < 256
              ∧ ∀ n ∈ snap.tstates, n < (archConfig s.cfg).tFrame)
          ∧ (snap.consistent s.cfg = false → t = failed)
          ∧ (snap.consistent s.cfg = true →
            t = { q with
                  cpu := { snap.cpu with
                    pc := BitVec.ofNat 16 snap.pc, sp := BitVec.ofNat 16 snap.sp,
                    im := [IntMode.im0, .im1, .im2].getD snap.im .im0, halted := false, eiBlock := false,
                    nmiPending := false },
                  ram := t.ram,
                  ula := { s.ula with borderColour := snap.border },
                  paging := pageTable s.cfg
                    (if (archConfig s.cfg).hasPaging then BitVec.ofNat 8 snap.port7FFD
                     else s.paging.port7FFD) false,
                  clock := { s.clock with tstates := snap.tstates.getD 0 },
                  ay := t.ay }
              ∧ (∀ p, memGet t.ram p = if p < 131072 then lastListed snap.ram p else 0x00)
              ∧ ((archConfig s.cfg).hasAy = false ∨ snap.ayRegs = none → t.ay = s.ay)
              ∧ (∀ regs, (archConfig s.cfg).hasAy = true → snap.ayRegs = some regs →
                  let masks := [0xFF, 0x0F, 0xFF, 0x0F, 0xFF, 0x0F, 0x1F, 0xFF, 0x1F, 0x1F, 0x1F, 0xFF,
                    0xFF, 0x0F]
                  (∀ i : Fin 14, t.ay.regs[i] = regs[i] &&& masks.getD i.val 0)
                    ∧ t.ay = { s.ay with
                        regs := t.ay.regs, envPos := 0, envHeld := false,
                        envCnt := BitVec.ofNat 16 (max (regs[11].toNat + 256 * regs[12].toNat) 1) })))
      ∧ (a = .reset →
          let b := fun n => Config.drawByte (s.drawCount + n)
          let w := fun n => Config.drawWord (s.drawCount + n)
          t = { q with
                cpu := { a := b 0, f := b 1, b := b 2, c := b 3, d := b 4, e := b 5, h := b 6, l := b 7,
                         a2 := b 8, f2 := b 9, b2 := b 10, c2 := b 11, d2 := b 12, e2 := b 13, h2 := b 14,
                         l2 := b 15, ix := w 16, iy := w 17, sp := w 18, pc := 0x0000, i := 0x00,
                         r := 0x00, iff1 := false, iff2 := false, im := .im0, halted := false,
                         eiBlock := false, nmiPending := false },
                drawCount := s.drawCount + 20,
                clock := { tstates := 0, globalTstates := 0, absTime := 0, frameCounter := 0 },
                paging := pageTable s.cfg 0x00 false,
                ula := { State.reset.ula with
                  keyMatrix := s.ula.keyMatrix, kempston := s.ula.kempston },
                framebuffer := { painted := [], drawn := s.drawCount + 19 }, ay := State.reset.ay,
                disk := { wd := State.reset.disk.wd, drives := t.disk.drives },
                tape := rewound s.tape.image 0 }
            ∧ ∀ u : Fin 4, t.disk.drives[u] = { s.disk.drives[u] with headTrack := 0 })
end

