-- ==== Sys2Proof/Laws/Ay.lean ====
section
/-! SUPPORT. What a chip step of the AY does to each counter, and what a sample sums (46 R561, R570, R571). -/

namespace Sys2Proof.Machine

/-! ## The parts of a chip step keep each other's fields -/

@[simp] theorem toneStep_regs (c : Fin 3) (ay : Ay) : (ay.toneStep c).regs = ay.regs := by
  unfold Ay.toneStep; split <;> rfl
@[simp] theorem noiseStep_regs (ay : Ay) : ay.noiseStep.regs = ay.regs := by
  unfold Ay.noiseStep; split <;> rfl
@[simp] theorem envAdvance_regs (ay : Ay) : ay.envAdvance.regs = ay.regs := by
  unfold Ay.envAdvance; (repeat' split) <;> rfl
@[simp] theorem envStep_regs (ay : Ay) : ay.envStep.regs = ay.regs := by
  unfold Ay.envStep; split <;> simp
@[simp] theorem chipStep_regs (ay : Ay) : ay.chipStep.regs = ay.regs := by
  simp [Ay.chipStep]

@[simp] theorem chipStep_iterate_regs (ay : Ay) (n : Nat) : (Ay.chipStep^[n] ay).regs = ay.regs := by
  induction n generalizing ay with
  | zero => rfl
  | succ n ih => rw [Function.iterate_succ_apply, ih, chipStep_regs]

/-! ## Samples -/

theorem amp_eq_ampOf (vols : List Nat) (ay : Ay) (c : Fin 3) : ay.amp vols c = ampOf vols ay c := by
  have nibble : lowNibble (ay.reg (8 + c.val)) = (ay.reg (8 + c.val)).toNat % 16 := by
    simp [lowNibble]
  have mode : (ay.reg (8 + c.val)).getLsbD 4 = decide (16 ≤ (ay.reg (8 + c.val)).toNat % 32) := by
    generalize ay.reg (8 + c.val) = b
    revert b
    decide
  have mixer : ay.reg 7 = ay.regs[7] := rfl
  have shape : ay.shape = ay.regs[13].toNat := rfl
  unfold Ay.amp ampOf Ay.gate Ay.level
  simp only [nibble, mode, mixer, shape, Bool.and_eq_true, Bool.or_eq_true, decide_eq_true_eq]

theorem ampSum_succ (vols : List Nat) (ay : Ay) (n : Nat) :
    ampSum vols ay (n + 1)
      = ampOf vols ay.chipStep 0 + ampOf vols ay.chipStep 1 + ampOf vols ay.chipStep 2
        + ampSum vols ay.chipStep n := by
  simp only [ampSum, List.range_succ_eq_map, List.map_cons, List.map_map, List.sum_cons,
    Function.comp_def, Function.iterate_succ_apply, Function.iterate_zero_apply]

/-- `n` chip steps with their amplitudes summed. -/
theorem accumulate_eq (vols : List Nat) (n : Nat) (ay : Ay) (acc : Nat) :
    Ay.accumulate vols n ay acc = (Ay.chipStep^[n] ay, acc + ampSum vols ay n) := by
  induction n generalizing ay acc with
  | zero => rfl
  | succ n ih =>
    rw [Ay.accumulate, ih, Function.iterate_succ_apply, ampSum_succ]
    simp only [amp_eq_ampOf, Nat.add_assoc]

end Sys2Proof.Machine
end

