-- ==== Sys2Proof/Laws/Bits.lean ====
section
/-! SUPPORT. The bit-field helpers: the bytes of a word, and each flag of a packed F. -/

namespace Sys2Proof.Machine

@[simp] theorem mkWord_toNat (hi lo : Byte) : (mkWord hi lo).toNat = 256 * hi.toNat + lo.toNat := by
  unfold mkWord
  rw [BitVec.toNat_append, Nat.shiftLeft_eq, Nat.mul_comm, ← Nat.two_pow_add_eq_or_of_lt lo.isLt]

theorem hiByte_toNat (w : Word) : (hiByte w).toNat = w.toNat / 256 := by
  simp only [hiByte, BitVec.extractLsb'_toNat, Nat.shiftRight_eq_div_pow]
  have := w.isLt
  omega

theorem loByte_toNat (w : Word) : (loByte w).toNat = w.toNat % 256 := by
  simp only [loByte, BitVec.extractLsb'_toNat, Nat.shiftRight_zero]

@[simp] theorem hiByte_mkWord (hi lo : Byte) : hiByte (mkWord hi lo) = hi := by
  apply BitVec.eq_of_toNat_eq
  rw [hiByte_toNat, mkWord_toNat]
  have := lo.isLt
  omega

@[simp] theorem loByte_mkWord (hi lo : Byte) : loByte (mkWord hi lo) = lo := by
  apply BitVec.eq_of_toNat_eq
  rw [loByte_toNat, mkWord_toNat]
  have := lo.isLt
  omega

@[simp] theorem mkWord_hiByte_loByte (w : Word) : mkWord (hiByte w) (loByte w) = w := by
  apply BitVec.eq_of_toNat_eq
  rw [mkWord_toNat, hiByte_toNat, loByte_toNat]
  omega

@[simp] theorem flagS_packF (s z y h x pv n c : Bool) : flagS (packF s z y h x pv n c) = s := by
  revert s z y h x pv n c; decide
@[simp] theorem flagZ_packF (s z y h x pv n c : Bool) : flagZ (packF s z y h x pv n c) = z := by
  revert s z y h x pv n c; decide
@[simp] theorem flagY_packF (s z y h x pv n c : Bool) : flagY (packF s z y h x pv n c) = y := by
  revert s z y h x pv n c; decide
@[simp] theorem flagH_packF (s z y h x pv n c : Bool) : flagH (packF s z y h x pv n c) = h := by
  revert s z y h x pv n c; decide
@[simp] theorem flagX_packF (s z y h x pv n c : Bool) : flagX (packF s z y h x pv n c) = x := by
  revert s z y h x pv n c; decide
@[simp] theorem flagPV_packF (s z y h x pv n c : Bool) : flagPV (packF s z y h x pv n c) = pv := by
  revert s z y h x pv n c; decide
@[simp] theorem flagN_packF (s z y h x pv n c : Bool) : flagN (packF s z y h x pv n c) = n := by
  revert s z y h x pv n c; decide
@[simp] theorem flagC_packF (s z y h x pv n c : Bool) : flagC (packF s z y h x pv n c) = c := by
  revert s z y h x pv n c; decide

end Sys2Proof.Machine
end

