-- ==== Sys2Proof/Laws/State.lean ====
section
/-! SUPPORT. One lemma per field per update of the state, true by unfolding, so that no proof unfolds a
record update. -/

namespace Sys2Proof.Machine

@[simp] theorem setPc_cfg (s : State) (a : Word) : (s.setPc a).cfg = s.cfg := rfl
@[simp] theorem setPc_cpu (s : State) (a : Word) : (s.setPc a).cpu = { s.cpu with pc := a } := rfl
@[simp] theorem setPc_clock (s : State) (a : Word) : (s.setPc a).clock = s.clock := rfl
@[simp] theorem setPc_paging (s : State) (a : Word) : (s.setPc a).paging = s.paging := rfl
@[simp] theorem setPc_ram (s : State) (a : Word) : (s.setPc a).ram = s.ram := rfl
@[simp] theorem setPc_rom (s : State) (a : Word) : (s.setPc a).rom = s.rom := rfl
@[simp] theorem setPc_ula (s : State) (a : Word) : (s.setPc a).ula = s.ula := rfl
@[simp] theorem setPc_framebuffer (s : State) (a : Word) : (s.setPc a).framebuffer = s.framebuffer := rfl
@[simp] theorem setPc_ay (s : State) (a : Word) : (s.setPc a).ay = s.ay := rfl
@[simp] theorem setPc_disk (s : State) (a : Word) : (s.setPc a).disk = s.disk := rfl
@[simp] theorem setPc_tape (s : State) (a : Word) : (s.setPc a).tape = s.tape := rfl
@[simp] theorem setPc_drawCount (s : State) (a : Word) : (s.setPc a).drawCount = s.drawCount := rfl
@[simp] theorem setPc_hostQueue (s : State) (a : Word) : (s.setPc a).hostQueue = s.hostQueue := rfl
@[simp] theorem setPc_frameBoundary (s : State) (a : Word) : (s.setPc a).frameBoundary = s.frameBoundary := rfl
@[simp] theorem setPc_hostOk (s : State) (a : Word) : (s.setPc a).hostOk = s.hostOk := rfl

@[simp] theorem setSp_cfg (s : State) (a : Word) : (s.setSp a).cfg = s.cfg := rfl
@[simp] theorem setSp_cpu (s : State) (a : Word) : (s.setSp a).cpu = { s.cpu with sp := a } := rfl
@[simp] theorem setSp_clock (s : State) (a : Word) : (s.setSp a).clock = s.clock := rfl
@[simp] theorem setSp_paging (s : State) (a : Word) : (s.setSp a).paging = s.paging := rfl
@[simp] theorem setSp_ram (s : State) (a : Word) : (s.setSp a).ram = s.ram := rfl
@[simp] theorem setSp_rom (s : State) (a : Word) : (s.setSp a).rom = s.rom := rfl
@[simp] theorem setSp_ula (s : State) (a : Word) : (s.setSp a).ula = s.ula := rfl
@[simp] theorem setSp_framebuffer (s : State) (a : Word) : (s.setSp a).framebuffer = s.framebuffer := rfl
@[simp] theorem setSp_ay (s : State) (a : Word) : (s.setSp a).ay = s.ay := rfl
@[simp] theorem setSp_disk (s : State) (a : Word) : (s.setSp a).disk = s.disk := rfl
@[simp] theorem setSp_tape (s : State) (a : Word) : (s.setSp a).tape = s.tape := rfl
@[simp] theorem setSp_drawCount (s : State) (a : Word) : (s.setSp a).drawCount = s.drawCount := rfl
@[simp] theorem setSp_hostQueue (s : State) (a : Word) : (s.setSp a).hostQueue = s.hostQueue := rfl
@[simp] theorem setSp_frameBoundary (s : State) (a : Word) : (s.setSp a).frameBoundary = s.frameBoundary := rfl
@[simp] theorem setSp_hostOk (s : State) (a : Word) : (s.setSp a).hostOk = s.hostOk := rfl

@[simp] theorem skip_cfg (s : State) (k : Nat) : (s.skip k).cfg = s.cfg := rfl
@[simp] theorem skip_cpu (s : State) (k : Nat) : (s.skip k).cpu = { s.cpu with pc := s.cpu.pc + BitVec.ofNat 16 k } := rfl
@[simp] theorem skip_clock (s : State) (k : Nat) : (s.skip k).clock = s.clock := rfl
@[simp] theorem skip_paging (s : State) (k : Nat) : (s.skip k).paging = s.paging := rfl
@[simp] theorem skip_ram (s : State) (k : Nat) : (s.skip k).ram = s.ram := rfl
@[simp] theorem skip_rom (s : State) (k : Nat) : (s.skip k).rom = s.rom := rfl
@[simp] theorem skip_ula (s : State) (k : Nat) : (s.skip k).ula = s.ula := rfl
@[simp] theorem skip_framebuffer (s : State) (k : Nat) : (s.skip k).framebuffer = s.framebuffer := rfl
@[simp] theorem skip_ay (s : State) (k : Nat) : (s.skip k).ay = s.ay := rfl
@[simp] theorem skip_disk (s : State) (k : Nat) : (s.skip k).disk = s.disk := rfl
@[simp] theorem skip_tape (s : State) (k : Nat) : (s.skip k).tape = s.tape := rfl
@[simp] theorem skip_drawCount (s : State) (k : Nat) : (s.skip k).drawCount = s.drawCount := rfl
@[simp] theorem skip_hostQueue (s : State) (k : Nat) : (s.skip k).hostQueue = s.hostQueue := rfl
@[simp] theorem skip_frameBoundary (s : State) (k : Nat) : (s.skip k).frameBoundary = s.frameBoundary := rfl
@[simp] theorem skip_hostOk (s : State) (k : Nat) : (s.skip k).hostOk = s.hostOk := rfl

@[simp] theorem mapCpu_cfg (s : State) (f : Cpu → Cpu) : (s.mapCpu f).cfg = s.cfg := rfl
@[simp] theorem mapCpu_cpu (s : State) (f : Cpu → Cpu) : (s.mapCpu f).cpu = f s.cpu := rfl
@[simp] theorem mapCpu_clock (s : State) (f : Cpu → Cpu) : (s.mapCpu f).clock = s.clock := rfl
@[simp] theorem mapCpu_paging (s : State) (f : Cpu → Cpu) : (s.mapCpu f).paging = s.paging := rfl
@[simp] theorem mapCpu_ram (s : State) (f : Cpu → Cpu) : (s.mapCpu f).ram = s.ram := rfl
@[simp] theorem mapCpu_rom (s : State) (f : Cpu → Cpu) : (s.mapCpu f).rom = s.rom := rfl
@[simp] theorem mapCpu_ula (s : State) (f : Cpu → Cpu) : (s.mapCpu f).ula = s.ula := rfl
@[simp] theorem mapCpu_framebuffer (s : State) (f : Cpu → Cpu) : (s.mapCpu f).framebuffer = s.framebuffer := rfl
@[simp] theorem mapCpu_ay (s : State) (f : Cpu → Cpu) : (s.mapCpu f).ay = s.ay := rfl
@[simp] theorem mapCpu_disk (s : State) (f : Cpu → Cpu) : (s.mapCpu f).disk = s.disk := rfl
@[simp] theorem mapCpu_tape (s : State) (f : Cpu → Cpu) : (s.mapCpu f).tape = s.tape := rfl
@[simp] theorem mapCpu_drawCount (s : State) (f : Cpu → Cpu) : (s.mapCpu f).drawCount = s.drawCount := rfl
@[simp] theorem mapCpu_hostQueue (s : State) (f : Cpu → Cpu) : (s.mapCpu f).hostQueue = s.hostQueue := rfl
@[simp] theorem mapCpu_frameBoundary (s : State) (f : Cpu → Cpu) : (s.mapCpu f).frameBoundary = s.frameBoundary := rfl
@[simp] theorem mapCpu_hostOk (s : State) (f : Cpu → Cpu) : (s.mapCpu f).hostOk = s.hostOk := rfl

@[simp] theorem setAF_cfg (s : State) (a f : Byte) : (s.setAF a f).cfg = s.cfg := rfl
@[simp] theorem setAF_cpu (s : State) (a f : Byte) : (s.setAF a f).cpu = { s.cpu with a := a, f := f } := rfl
@[simp] theorem setAF_clock (s : State) (a f : Byte) : (s.setAF a f).clock = s.clock := rfl
@[simp] theorem setAF_paging (s : State) (a f : Byte) : (s.setAF a f).paging = s.paging := rfl
@[simp] theorem setAF_ram (s : State) (a f : Byte) : (s.setAF a f).ram = s.ram := rfl
@[simp] theorem setAF_rom (s : State) (a f : Byte) : (s.setAF a f).rom = s.rom := rfl
@[simp] theorem setAF_ula (s : State) (a f : Byte) : (s.setAF a f).ula = s.ula := rfl
@[simp] theorem setAF_framebuffer (s : State) (a f : Byte) : (s.setAF a f).framebuffer = s.framebuffer := rfl
@[simp] theorem setAF_ay (s : State) (a f : Byte) : (s.setAF a f).ay = s.ay := rfl
@[simp] theorem setAF_disk (s : State) (a f : Byte) : (s.setAF a f).disk = s.disk := rfl
@[simp] theorem setAF_tape (s : State) (a f : Byte) : (s.setAF a f).tape = s.tape := rfl
@[simp] theorem setAF_drawCount (s : State) (a f : Byte) : (s.setAF a f).drawCount = s.drawCount := rfl
@[simp] theorem setAF_hostQueue (s : State) (a f : Byte) : (s.setAF a f).hostQueue = s.hostQueue := rfl
@[simp] theorem setAF_frameBoundary (s : State) (a f : Byte) : (s.setAF a f).frameBoundary = s.frameBoundary := rfl
@[simp] theorem setAF_hostOk (s : State) (a f : Byte) : (s.setAF a f).hostOk = s.hostOk := rfl

@[simp] theorem setF_cfg (s : State) (f : Byte) : (s.setF f).cfg = s.cfg := rfl
@[simp] theorem setF_cpu (s : State) (f : Byte) : (s.setF f).cpu = { s.cpu with f := f } := rfl
@[simp] theorem setF_clock (s : State) (f : Byte) : (s.setF f).clock = s.clock := rfl
@[simp] theorem setF_paging (s : State) (f : Byte) : (s.setF f).paging = s.paging := rfl
@[simp] theorem setF_ram (s : State) (f : Byte) : (s.setF f).ram = s.ram := rfl
@[simp] theorem setF_rom (s : State) (f : Byte) : (s.setF f).rom = s.rom := rfl
@[simp] theorem setF_ula (s : State) (f : Byte) : (s.setF f).ula = s.ula := rfl
@[simp] theorem setF_framebuffer (s : State) (f : Byte) : (s.setF f).framebuffer = s.framebuffer := rfl
@[simp] theorem setF_ay (s : State) (f : Byte) : (s.setF f).ay = s.ay := rfl
@[simp] theorem setF_disk (s : State) (f : Byte) : (s.setF f).disk = s.disk := rfl
@[simp] theorem setF_tape (s : State) (f : Byte) : (s.setF f).tape = s.tape := rfl
@[simp] theorem setF_drawCount (s : State) (f : Byte) : (s.setF f).drawCount = s.drawCount := rfl
@[simp] theorem setF_hostQueue (s : State) (f : Byte) : (s.setF f).hostQueue = s.hostQueue := rfl
@[simp] theorem setF_frameBoundary (s : State) (f : Byte) : (s.setF f).frameBoundary = s.frameBoundary := rfl
@[simp] theorem setF_hostOk (s : State) (f : Byte) : (s.setF f).hostOk = s.hostOk := rfl

@[simp] theorem setA_cfg (s : State) (a : Byte) : (s.setA a).cfg = s.cfg := rfl
@[simp] theorem setA_cpu (s : State) (a : Byte) : (s.setA a).cpu = { s.cpu with a := a } := rfl
@[simp] theorem setA_clock (s : State) (a : Byte) : (s.setA a).clock = s.clock := rfl
@[simp] theorem setA_paging (s : State) (a : Byte) : (s.setA a).paging = s.paging := rfl
@[simp] theorem setA_ram (s : State) (a : Byte) : (s.setA a).ram = s.ram := rfl
@[simp] theorem setA_rom (s : State) (a : Byte) : (s.setA a).rom = s.rom := rfl
@[simp] theorem setA_ula (s : State) (a : Byte) : (s.setA a).ula = s.ula := rfl
@[simp] theorem setA_framebuffer (s : State) (a : Byte) : (s.setA a).framebuffer = s.framebuffer := rfl
@[simp] theorem setA_ay (s : State) (a : Byte) : (s.setA a).ay = s.ay := rfl
@[simp] theorem setA_disk (s : State) (a : Byte) : (s.setA a).disk = s.disk := rfl
@[simp] theorem setA_tape (s : State) (a : Byte) : (s.setA a).tape = s.tape := rfl
@[simp] theorem setA_drawCount (s : State) (a : Byte) : (s.setA a).drawCount = s.drawCount := rfl
@[simp] theorem setA_hostQueue (s : State) (a : Byte) : (s.setA a).hostQueue = s.hostQueue := rfl
@[simp] theorem setA_frameBoundary (s : State) (a : Byte) : (s.setA a).frameBoundary = s.frameBoundary := rfl
@[simp] theorem setA_hostOk (s : State) (a : Byte) : (s.setA a).hostOk = s.hostOk := rfl

@[simp] theorem writeByte_cfg (s : State) (a : Word) (v : Byte) : (s.writeByte a v).cfg = s.cfg := rfl
@[simp] theorem writeByte_cpu (s : State) (a : Word) (v : Byte) : (s.writeByte a v).cpu = s.cpu := rfl
@[simp] theorem writeByte_clock (s : State) (a : Word) (v : Byte) : (s.writeByte a v).clock = s.clock := rfl
@[simp] theorem writeByte_paging (s : State) (a : Word) (v : Byte) : (s.writeByte a v).paging = s.paging := rfl
@[simp] theorem writeByte_ram (s : State) (a : Word) (v : Byte) : (s.writeByte a v).ram = writeThrough s.paging s.ram a v := rfl
@[simp] theorem writeByte_rom (s : State) (a : Word) (v : Byte) : (s.writeByte a v).rom = s.rom := rfl
@[simp] theorem writeByte_ula (s : State) (a : Word) (v : Byte) : (s.writeByte a v).ula = s.ula := rfl
@[simp] theorem writeByte_framebuffer (s : State) (a : Word) (v : Byte) : (s.writeByte a v).framebuffer = s.framebuffer := rfl
@[simp] theorem writeByte_ay (s : State) (a : Word) (v : Byte) : (s.writeByte a v).ay = s.ay := rfl
@[simp] theorem writeByte_disk (s : State) (a : Word) (v : Byte) : (s.writeByte a v).disk = s.disk := rfl
@[simp] theorem writeByte_tape (s : State) (a : Word) (v : Byte) : (s.writeByte a v).tape = s.tape := rfl
@[simp] theorem writeByte_drawCount (s : State) (a : Word) (v : Byte) : (s.writeByte a v).drawCount = s.drawCount := rfl
@[simp] theorem writeByte_hostQueue (s : State) (a : Word) (v : Byte) : (s.writeByte a v).hostQueue = s.hostQueue := rfl
@[simp] theorem writeByte_frameBoundary (s : State) (a : Word) (v : Byte) : (s.writeByte a v).frameBoundary = s.frameBoundary := rfl
@[simp] theorem writeByte_hostOk (s : State) (a : Word) (v : Byte) : (s.writeByte a v).hostOk = s.hostOk := rfl

@[simp] theorem advance_cfg (s : State) (k : Nat) : (advance k s).cfg = s.cfg := rfl
@[simp] theorem advance_cpu (s : State) (k : Nat) : (advance k s).cpu = s.cpu := rfl
@[simp] theorem advance_clock (s : State) (k : Nat) : (advance k s).clock = s.clock.advance k := rfl
@[simp] theorem advance_paging (s : State) (k : Nat) : (advance k s).paging = s.paging := rfl
@[simp] theorem advance_ram (s : State) (k : Nat) : (advance k s).ram = s.ram := rfl
@[simp] theorem advance_rom (s : State) (k : Nat) : (advance k s).rom = s.rom := rfl
@[simp] theorem advance_ula (s : State) (k : Nat) : (advance k s).ula = s.ula := rfl
@[simp] theorem advance_framebuffer (s : State) (k : Nat) : (advance k s).framebuffer = paintSpan (rasterOf s.cfg) s.rasterInput s.clock.tstates k s.framebuffer := rfl
@[simp] theorem advance_ay (s : State) (k : Nat) : (advance k s).ay = s.ay := rfl
@[simp] theorem advance_disk (s : State) (k : Nat) : (advance k s).disk = s.disk := rfl
@[simp] theorem advance_tape (s : State) (k : Nat) : (advance k s).tape = s.tape := rfl
@[simp] theorem advance_drawCount (s : State) (k : Nat) : (advance k s).drawCount = s.drawCount := rfl
@[simp] theorem advance_hostQueue (s : State) (k : Nat) : (advance k s).hostQueue = s.hostQueue := rfl
@[simp] theorem advance_frameBoundary (s : State) (k : Nat) : (advance k s).frameBoundary = s.frameBoundary := rfl
@[simp] theorem advance_hostOk (s : State) (k : Nat) : (advance k s).hostOk = s.hostOk := rfl

@[simp] theorem bumpR_cfg (s : State) : (bumpR s).cfg = s.cfg := rfl
@[simp] theorem bumpR_cpu (s : State) : (bumpR s).cpu = { s.cpu with r := nextR s.cpu.r } := rfl
@[simp] theorem bumpR_clock (s : State) : (bumpR s).clock = s.clock := rfl
@[simp] theorem bumpR_paging (s : State) : (bumpR s).paging = s.paging := rfl
@[simp] theorem bumpR_ram (s : State) : (bumpR s).ram = s.ram := rfl
@[simp] theorem bumpR_rom (s : State) : (bumpR s).rom = s.rom := rfl
@[simp] theorem bumpR_ula (s : State) : (bumpR s).ula = s.ula := rfl
@[simp] theorem bumpR_framebuffer (s : State) : (bumpR s).framebuffer = s.framebuffer := rfl
@[simp] theorem bumpR_ay (s : State) : (bumpR s).ay = s.ay := rfl
@[simp] theorem bumpR_disk (s : State) : (bumpR s).disk = s.disk := rfl
@[simp] theorem bumpR_tape (s : State) : (bumpR s).tape = s.tape := rfl
@[simp] theorem bumpR_drawCount (s : State) : (bumpR s).drawCount = s.drawCount := rfl
@[simp] theorem bumpR_hostQueue (s : State) : (bumpR s).hostQueue = s.hostQueue := rfl
@[simp] theorem bumpR_frameBoundary (s : State) : (bumpR s).frameBoundary = s.frameBoundary := rfl
@[simp] theorem bumpR_hostOk (s : State) : (bumpR s).hostOk = s.hostOk := rfl

@[simp] theorem drawBool_cfg (s : State) : ((drawBool s).2).cfg = s.cfg := rfl
@[simp] theorem drawBool_cpu (s : State) : ((drawBool s).2).cpu = s.cpu := rfl
@[simp] theorem drawBool_clock (s : State) : ((drawBool s).2).clock = s.clock := rfl
@[simp] theorem drawBool_paging (s : State) : ((drawBool s).2).paging = s.paging := rfl
@[simp] theorem drawBool_ram (s : State) : ((drawBool s).2).ram = s.ram := rfl
@[simp] theorem drawBool_rom (s : State) : ((drawBool s).2).rom = s.rom := rfl
@[simp] theorem drawBool_ula (s : State) : ((drawBool s).2).ula = s.ula := rfl
@[simp] theorem drawBool_framebuffer (s : State) : ((drawBool s).2).framebuffer = s.framebuffer := rfl
@[simp] theorem drawBool_ay (s : State) : ((drawBool s).2).ay = s.ay := rfl
@[simp] theorem drawBool_disk (s : State) : ((drawBool s).2).disk = s.disk := rfl
@[simp] theorem drawBool_tape (s : State) : ((drawBool s).2).tape = s.tape := rfl
@[simp] theorem drawBool_drawCount (s : State) : ((drawBool s).2).drawCount = s.drawCount + 1 := rfl
@[simp] theorem drawBool_hostQueue (s : State) : ((drawBool s).2).hostQueue = s.hostQueue := rfl
@[simp] theorem drawBool_frameBoundary (s : State) : ((drawBool s).2).frameBoundary = s.frameBoundary := rfl
@[simp] theorem drawBool_hostOk (s : State) : ((drawBool s).2).hostOk = s.hostOk := rfl

@[simp] theorem inFrame_cfg (s : State) : (s.inFrame).cfg = s.cfg := rfl
@[simp] theorem inFrame_cpu (s : State) : (s.inFrame).cpu = s.cpu := rfl
@[simp] theorem inFrame_clock (s : State) : (s.inFrame).clock = s.clock := rfl
@[simp] theorem inFrame_paging (s : State) : (s.inFrame).paging = s.paging := rfl
@[simp] theorem inFrame_ram (s : State) : (s.inFrame).ram = s.ram := rfl
@[simp] theorem inFrame_rom (s : State) : (s.inFrame).rom = s.rom := rfl
@[simp] theorem inFrame_ula (s : State) : (s.inFrame).ula = s.ula := rfl
@[simp] theorem inFrame_framebuffer (s : State) : (s.inFrame).framebuffer = s.framebuffer := rfl
@[simp] theorem inFrame_ay (s : State) : (s.inFrame).ay = s.ay := rfl
@[simp] theorem inFrame_disk (s : State) : (s.inFrame).disk = s.disk := rfl
@[simp] theorem inFrame_tape (s : State) : (s.inFrame).tape = s.tape := rfl
@[simp] theorem inFrame_drawCount (s : State) : (s.inFrame).drawCount = s.drawCount := rfl
@[simp] theorem inFrame_hostQueue (s : State) : (s.inFrame).hostQueue = s.hostQueue := rfl
@[simp] theorem inFrame_frameBoundary (s : State) : (s.inFrame).frameBoundary = false := rfl
@[simp] theorem inFrame_hostOk (s : State) : (s.inFrame).hostOk = s.hostOk := rfl

@[simp] theorem clearEiBlock_cfg (s : State) : (s.clearEiBlock).cfg = s.cfg := rfl
@[simp] theorem clearEiBlock_cpu (s : State) : (s.clearEiBlock).cpu = { s.cpu with eiBlock := false } := rfl
@[simp] theorem clearEiBlock_clock (s : State) : (s.clearEiBlock).clock = s.clock := rfl
@[simp] theorem clearEiBlock_paging (s : State) : (s.clearEiBlock).paging = s.paging := rfl
@[simp] theorem clearEiBlock_ram (s : State) : (s.clearEiBlock).ram = s.ram := rfl
@[simp] theorem clearEiBlock_rom (s : State) : (s.clearEiBlock).rom = s.rom := rfl
@[simp] theorem clearEiBlock_ula (s : State) : (s.clearEiBlock).ula = s.ula := rfl
@[simp] theorem clearEiBlock_framebuffer (s : State) : (s.clearEiBlock).framebuffer = s.framebuffer := rfl
@[simp] theorem clearEiBlock_ay (s : State) : (s.clearEiBlock).ay = s.ay := rfl
@[simp] theorem clearEiBlock_disk (s : State) : (s.clearEiBlock).disk = s.disk := rfl
@[simp] theorem clearEiBlock_tape (s : State) : (s.clearEiBlock).tape = s.tape := rfl
@[simp] theorem clearEiBlock_drawCount (s : State) : (s.clearEiBlock).drawCount = s.drawCount := rfl
@[simp] theorem clearEiBlock_hostQueue (s : State) : (s.clearEiBlock).hostQueue = s.hostQueue := rfl
@[simp] theorem clearEiBlock_frameBoundary (s : State) : (s.clearEiBlock).frameBoundary = s.frameBoundary := rfl
@[simp] theorem clearEiBlock_hostOk (s : State) : (s.clearEiBlock).hostOk = s.hostOk := rfl

@[simp] theorem noteOk_cfg (s : State) (b : Bool) : (s.noteOk b).cfg = s.cfg := rfl
@[simp] theorem noteOk_cpu (s : State) (b : Bool) : (s.noteOk b).cpu = s.cpu := rfl
@[simp] theorem noteOk_clock (s : State) (b : Bool) : (s.noteOk b).clock = s.clock := rfl
@[simp] theorem noteOk_paging (s : State) (b : Bool) : (s.noteOk b).paging = s.paging := rfl
@[simp] theorem noteOk_ram (s : State) (b : Bool) : (s.noteOk b).ram = s.ram := rfl
@[simp] theorem noteOk_rom (s : State) (b : Bool) : (s.noteOk b).rom = s.rom := rfl
@[simp] theorem noteOk_ula (s : State) (b : Bool) : (s.noteOk b).ula = s.ula := rfl
@[simp] theorem noteOk_framebuffer (s : State) (b : Bool) : (s.noteOk b).framebuffer = s.framebuffer := rfl
@[simp] theorem noteOk_ay (s : State) (b : Bool) : (s.noteOk b).ay = s.ay := rfl
@[simp] theorem noteOk_disk (s : State) (b : Bool) : (s.noteOk b).disk = s.disk := rfl
@[simp] theorem noteOk_tape (s : State) (b : Bool) : (s.noteOk b).tape = s.tape := rfl
@[simp] theorem noteOk_drawCount (s : State) (b : Bool) : (s.noteOk b).drawCount = s.drawCount := rfl
@[simp] theorem noteOk_hostQueue (s : State) (b : Bool) : (s.noteOk b).hostQueue = s.hostQueue := rfl
@[simp] theorem noteOk_frameBoundary (s : State) (b : Bool) : (s.noteOk b).frameBoundary = s.frameBoundary := rfl
@[simp] theorem noteOk_hostOk (s : State) (b : Bool) : (s.noteOk b).hostOk = b := rfl

@[simp] theorem drawBool_fst (s : State) : (drawBool s).1 = Config.drawBool s.drawCount := rfl
@[simp] theorem clock_advance_tstates (c : Clock) (k : Nat) : (c.advance k).tstates = c.tstates + k := rfl
@[simp] theorem clock_advance_globalTstates (c : Clock) (k : Nat) : (c.advance k).globalTstates = c.globalTstates + BitVec.ofNat 24 k := rfl
@[simp] theorem clock_advance_absTime (c : Clock) (k : Nat) : (c.advance k).absTime = c.absTime + k := rfl
@[simp] theorem clock_advance_frameCounter (c : Clock) (k : Nat) : (c.advance k).frameCounter = c.frameCounter := rfl

end Sys2Proof.Machine
end

