-- ==== Sys2Proof/Laws/Boundary.lean ====
section
/-! SUPPORT. What the forecast of an interrupt at the next boundary depends on, and what it answers. -/

namespace Sys2Proof.Machine

/-- The forecast reads the gate, the host actions and the boundary flag of a configuration only. -/
theorem intAtBoundary_congr {s t : State} (hc : t.cfg = s.cfg) (hg : t.intGate = s.intGate)
    (hq : t.hostQueue = s.hostQueue) (hb : t.frameBoundary = s.frameBoundary) :
    intAtBoundary t = intAtBoundary s := by
  unfold intAtBoundary
  rw [hc, hg, hq, hb]

@[simp] theorem intAtBoundary_setAF (s : State) (a f : Byte) :
    intAtBoundary (s.setAF a f) = intAtBoundary s := rfl
@[simp] theorem intAtBoundary_skip (s : State) (k : Nat) : intAtBoundary (s.skip k) = intAtBoundary s := rfl
@[simp] theorem intAtBoundary_drawBool (s : State) : intAtBoundary (drawBool s).2 = intAtBoundary s := rfl

/-- What a load of I or R leaves ahead is what stood ahead before its result was written. -/
@[simp] theorem intAtBoundary_loadAIr (v : Byte) (t : State) :
    intAtBoundary (loadAIr v t) = intAtBoundary t := by
  unfold loadAIr
  split <;> rfl

/-- Inside a frame the boundary is the one the state stands at. -/
theorem intAtBoundary_inFrame {s : State} (hb : s.frameBoundary = false)
    (ht : s.clock.tstates < (archConfig s.cfg).tFrame) :
    intAtBoundary s = s.intGate.accepts s.cfg := by
  simp [intAtBoundary, hb, IntGate.inFrame, State.intGate, ht]

/-- With an NMI pending no boundary accepts a maskable interrupt. -/
theorem IntGate.accepts_of_nmi (c : Cfg) {g : IntGate} (h : g.nmiPending = true) : g.accepts c = false := by
  simp [IntGate.accepts, h]

/-- A host action other than `FrameStep` moves the gate on. -/
theorem acceptsAfter_action (c : Cfg) (g : IntGate) {a : HostAction} (ha : a ≠ .frameStep)
    (q : List HostAction) : acceptsAfter c g (a :: q) = acceptsAfter c (g.afterAction c a) q := by
  cases a <;> first | rfl | exact absurd rfl ha

end Sys2Proof.Machine
end

