-- ==== Sys2Proof/Laws/Cells.lean ====
section
/-! SUPPORT. Sparse cells: a read after a write, and every write keeps the canonical form. -/

namespace Sys2Proof.Machine

variable {α : Type} [DecidableEq α] (d : α)

theorem cellsFrom_mono {lo lo' : Nat} (h : lo' ≤ lo) (l : List (Nat × α))
    (hl : cellsFrom d lo l = true) : cellsFrom d lo' l = true := by
  cases l with
  | nil => rfl
  | cons x t =>
    simp only [cellsFrom, Bool.and_eq_true, decide_eq_true_eq] at hl ⊢
    exact ⟨⟨by omega, hl.1.2⟩, hl.2⟩

/-- Below the lower bound nothing is listed. -/
theorem cellsGet_below {lo : Nat} (l : List (Nat × α)) (hl : cellsFrom d lo l = true) {b : Nat}
    (hb : b < lo) : cellsGet d l b = d := by
  cases l with
  | nil => rfl
  | cons x t =>
    simp only [cellsFrom, Bool.and_eq_true, decide_eq_true_eq] at hl
    have h1 : x.1 ≠ b := by omega
    have h2 : b < x.1 := by omega
    simp [cellsGet, h1, h2]

/-- A read after a write, in a canonical list. -/
theorem cellsGet_cellsSet {lo : Nat} (l : List (Nat × α)) (hl : cellsFrom d lo l = true) (a : Nat) (v : α)
    (b : Nat) : cellsGet d (cellsSet d l a v) b = if b = a then v else cellsGet d l b := by
  induction l generalizing lo with
  | nil =>
    by_cases hv : v = d <;> by_cases hb : b = a <;> simp [cellsSet, cellsGet, hv, hb]
    intro h; exact absurd h.symm hb
  | cons x t ih =>
    obtain ⟨k, w⟩ := x
    have hl' := hl
    simp only [cellsFrom, Bool.and_eq_true, decide_eq_true_eq] at hl'
    obtain ⟨⟨hk, hw⟩, ht⟩ := hl'
    have below : ∀ c, c ≤ k → cellsGet d t c = d := fun c hc => cellsGet_below d t ht (by omega)
    unfold cellsSet
    by_cases h1 : a < k
    · by_cases hv : v = d
      · simp only [h1, hv, if_true]
        by_cases hb : b = a
        · subst hb
          have : ¬ k = b := by omega
          simp [cellsGet, this, h1]
        · simp [hb]
      · simp only [h1, hv, if_true, if_false]
        by_cases hb : b = a
        · subst hb; simp [cellsGet]
        · have hab : ¬ a = b := fun h => hb h.symm
          by_cases h2 : b < a
          · have h3 : ¬ k = b := by omega
            have h4 : b < k := by omega
            simp [cellsGet, hab, h2, hb, h3, h4]
          · simp [cellsGet, hab, h2, hb]
    · by_cases h2 : k = a
      · subst h2
        by_cases hv : v = d
        · simp only [lt_irrefl, if_false, if_true, hv]
          by_cases hb : b = k
          · subst hb; simp [below b (le_refl b)]
          · have hkb : ¬ k = b := fun h => hb h.symm
            by_cases h3 : b < k
            · simp [cellsGet, hkb, h3, hb, below b (le_of_lt h3)]
            · simp [cellsGet, hkb, h3, hb]
        · simp only [lt_irrefl, if_false, if_true, hv]
          by_cases hb : b = k
          · subst hb; simp [cellsGet]
          · have hkb : ¬ k = b := fun h => hb h.symm
            simp [cellsGet, hkb, hb]
      · simp only [h1, h2, if_false]
        by_cases hb : k = b
        · subst hb
          simp [cellsGet, h2]
        · by_cases h3 : b < k
          · have h4 : ¬ b = a := by omega
            simp [cellsGet, hb, h3, h4]
          · simp only [cellsGet, hb, h3, if_false]
            exact ih ht

/-- A write keeps the canonical form. -/
theorem cellsFrom_cellsSet {lo : Nat} (l : List (Nat × α)) (hl : cellsFrom d lo l = true) (a : Nat) (v : α)
    (ha : lo ≤ a) : cellsFrom d lo (cellsSet d l a v) = true := by
  induction l generalizing lo with
  | nil => by_cases hv : v = d <;> simp [cellsSet, cellsFrom, hv, ha]
  | cons x t ih =>
    obtain ⟨k, w⟩ := x
    have hl' := hl
    simp only [cellsFrom, Bool.and_eq_true, decide_eq_true_eq] at hl'
    obtain ⟨⟨hk, hw⟩, ht⟩ := hl'
    unfold cellsSet
    by_cases h1 : a < k
    · by_cases hv : v = d
      · simp [h1, hv, cellsFrom, hk, hw, ht]
      · have : a + 1 ≤ k := h1
        simp [h1, hv, cellsFrom, ha, hw, ht, this]
    · by_cases h2 : k = a
      · subst h2
        by_cases hv : v = d
        · simp only [lt_irrefl, if_false, if_true, hv]
          exact cellsFrom_mono d (by omega) t ht
        · simp [hv, cellsFrom, ha, ht]
      · simp only [h1, h2, if_false, cellsFrom, Bool.and_eq_true, decide_eq_true_eq]
        exact ⟨⟨hk, hw⟩, ih ht (by omega)⟩

/-- Memory: a read after a write. -/
theorem memGet_memSet (m : Memory) (h : Memory.wf m = true) (a : Nat) (v : Byte) (b : Nat) :
    memGet (memSet m a v) b = if b = a then v else memGet m b :=
  cellsGet_cellsSet unlistedByte m h a v b

/-- Memory: a write keeps the canonical form. -/
theorem memSet_wf (m : Memory) (h : Memory.wf m = true) (a : Nat) (v : Byte) :
    Memory.wf (memSet m a v) = true :=
  cellsFrom_cellsSet unlistedByte m h a v (Nat.zero_le a)

/-- Memory: writes one after another keep the canonical form. -/
theorem memSetAll_wf (ws : List Host.Cell) (m : Memory) (h : Memory.wf m = true) :
    Memory.wf (memSetAll m ws) = true := by
  induction ws generalizing m with
  | nil => exact h
  | cons w ws ih => exact ih _ (memSet_wf m h w.1 w.2)

/-- A host image in normal form is canonical. -/
theorem image_normal_wf (img : Image) : Memory.wf img.normal.cells = true :=
  memSetAll_wf _ _ rfl

/-- A write to an image keeps the canonical form. -/
theorem image_write_wf (img : Image) (h : Memory.wf img.cells = true) (off : Nat) (v : Byte) :
    Memory.wf (img.write off v).cells = true := by
  unfold Image.write
  split
  · exact memSet_wf _ h off v
  · exact h

end Sys2Proof.Machine
end

