-- ==== Sys2Proof/Laws/Ops.lean ====
section
/-! SUPPORT. What each bus primitive and each operand form can do: its effect on every field. Time is
charged by `advance` alone, which moves the clocks and the framebuffer. -/

namespace Sys2Proof.Machine

/-- Only the clocks and the framebuffer move. -/
def TimeOnly (s t : State) : Prop := t = { s with clock := t.clock, framebuffer := t.framebuffer }

theorem TimeOnly.refl (s : State) : TimeOnly s s := rfl

theorem TimeOnly.trans {s t u : State} (h : TimeOnly s t) (g : TimeOnly t u) : TimeOnly s u := by
  unfold TimeOnly at *
  rw [g, h]

theorem advance_timeOnly (k : Nat) (s : State) : TimeOnly s (advance k s) := rfl

theorem contend_timeOnly (a : Word) (s : State) : TimeOnly s (contend a s) := by
  unfold contend
  split
  · exact advance_timeOnly _ s
  · exact TimeOnly.refl s

theorem chargeCycle_timeOnly (a : Word) (n : Nat) (s : State) : TimeOnly s (chargeCycle a n s) :=
  (contend_timeOnly a s).trans (advance_timeOnly n _)

theorem internal_timeOnly (a : Word) (n : Nat) (s : State) : TimeOnly s (internal a n s) := by
  induction n generalizing s with
  | zero => exact TimeOnly.refl s
  | succ n ih => exact (chargeCycle_timeOnly a 1 s).trans (ih _)

theorem internalIr_timeOnly (n : Nat) (s : State) : TimeOnly s (internalIr n s) :=
  internal_timeOnly _ n s

theorem skipRead_timeOnly (a : Word) (s : State) : TimeOnly s (skipRead a s) :=
  chargeCycle_timeOnly a 3 s

theorem ioContended_timeOnly (k : Nat) (s : State) : TimeOnly s (ioContended k s) := by
  unfold ioContended
  split
  · exact (advance_timeOnly _ s).trans (advance_timeOnly k _)
  · exact advance_timeOnly k s

theorem chargeIo_timeOnly (p : Word) (s : State) : TimeOnly s (chargeIo p s) := by
  unfold chargeIo
  split
  · split
    · exact (ioContended_timeOnly 1 s).trans (ioContended_timeOnly 2 _)
    · exact (((ioContended_timeOnly 1 s).trans (ioContended_timeOnly 1 _)).trans
        (ioContended_timeOnly 1 _)).trans (ioContended_timeOnly 0 _)
  · split
    · exact (advance_timeOnly 1 s).trans (ioContended_timeOnly 2 _)
    · exact advance_timeOnly 3 s

theorem TimeOnly.cfg {s t : State} (h : TimeOnly s t) : t.cfg = s.cfg := by rw [h]
theorem TimeOnly.cpu {s t : State} (h : TimeOnly s t) : t.cpu = s.cpu := by rw [h]
theorem TimeOnly.paging {s t : State} (h : TimeOnly s t) : t.paging = s.paging := by rw [h]
theorem TimeOnly.ram {s t : State} (h : TimeOnly s t) : t.ram = s.ram := by rw [h]
theorem TimeOnly.rom {s t : State} (h : TimeOnly s t) : t.rom = s.rom := by rw [h]
theorem TimeOnly.ula {s t : State} (h : TimeOnly s t) : t.ula = s.ula := by rw [h]
theorem TimeOnly.ay {s t : State} (h : TimeOnly s t) : t.ay = s.ay := by rw [h]
theorem TimeOnly.disk {s t : State} (h : TimeOnly s t) : t.disk = s.disk := by rw [h]
theorem TimeOnly.tape {s t : State} (h : TimeOnly s t) : t.tape = s.tape := by rw [h]
theorem TimeOnly.drawCount {s t : State} (h : TimeOnly s t) : t.drawCount = s.drawCount := by rw [h]
theorem TimeOnly.hostQueue {s t : State} (h : TimeOnly s t) : t.hostQueue = s.hostQueue := by rw [h]
theorem TimeOnly.frameBoundary {s t : State} (h : TimeOnly s t) : t.frameBoundary = s.frameBoundary := by rw [h]
theorem TimeOnly.hostOk {s t : State} (h : TimeOnly s t) : t.hostOk = s.hostOk := by rw [h]

@[simp] theorem contend_cfg (a : Word) (s : State) : (contend a s).cfg = s.cfg :=
  (contend_timeOnly a s).cfg
@[simp] theorem contend_cpu (a : Word) (s : State) : (contend a s).cpu = s.cpu :=
  (contend_timeOnly a s).cpu
@[simp] theorem contend_paging (a : Word) (s : State) : (contend a s).paging = s.paging :=
  (contend_timeOnly a s).paging
@[simp] theorem contend_ram (a : Word) (s : State) : (contend a s).ram = s.ram :=
  (contend_timeOnly a s).ram
@[simp] theorem contend_rom (a : Word) (s : State) : (contend a s).rom = s.rom :=
  (contend_timeOnly a s).rom
@[simp] theorem contend_ula (a : Word) (s : State) : (contend a s).ula = s.ula :=
  (contend_timeOnly a s).ula
@[simp] theorem contend_ay (a : Word) (s : State) : (contend a s).ay = s.ay :=
  (contend_timeOnly a s).ay
@[simp] theorem contend_disk (a : Word) (s : State) : (contend a s).disk = s.disk :=
  (contend_timeOnly a s).disk
@[simp] theorem contend_tape (a : Word) (s : State) : (contend a s).tape = s.tape :=
  (contend_timeOnly a s).tape
@[simp] theorem contend_drawCount (a : Word) (s : State) : (contend a s).drawCount = s.drawCount :=
  (contend_timeOnly a s).drawCount
@[simp] theorem contend_hostQueue (a : Word) (s : State) : (contend a s).hostQueue = s.hostQueue :=
  (contend_timeOnly a s).hostQueue
@[simp] theorem contend_frameBoundary (a : Word) (s : State) : (contend a s).frameBoundary = s.frameBoundary :=
  (contend_timeOnly a s).frameBoundary
@[simp] theorem contend_hostOk (a : Word) (s : State) : (contend a s).hostOk = s.hostOk :=
  (contend_timeOnly a s).hostOk

@[simp] theorem chargeCycle_cfg (a : Word) (n : Nat) (s : State) : (chargeCycle a n s).cfg = s.cfg :=
  (chargeCycle_timeOnly a n s).cfg
@[simp] theorem chargeCycle_cpu (a : Word) (n : Nat) (s : State) : (chargeCycle a n s).cpu = s.cpu :=
  (chargeCycle_timeOnly a n s).cpu
@[simp] theorem chargeCycle_paging (a : Word) (n : Nat) (s : State) : (chargeCycle a n s).paging = s.paging :=
  (chargeCycle_timeOnly a n s).paging
@[simp] theorem chargeCycle_ram (a : Word) (n : Nat) (s : State) : (chargeCycle a n s).ram = s.ram :=
  (chargeCycle_timeOnly a n s).ram
@[simp] theorem chargeCycle_rom (a : Word) (n : Nat) (s : State) : (chargeCycle a n s).rom = s.rom :=
  (chargeCycle_timeOnly a n s).rom
@[simp] theorem chargeCycle_ula (a : Word) (n : Nat) (s : State) : (chargeCycle a n s).ula = s.ula :=
  (chargeCycle_timeOnly a n s).ula
@[simp] theorem chargeCycle_ay (a : Word) (n : Nat) (s : State) : (chargeCycle a n s).ay = s.ay :=
  (chargeCycle_timeOnly a n s).ay
@[simp] theorem chargeCycle_disk (a : Word) (n : Nat) (s : State) : (chargeCycle a n s).disk = s.disk :=
  (chargeCycle_timeOnly a n s).disk
@[simp] theorem chargeCycle_tape (a : Word) (n : Nat) (s : State) : (chargeCycle a n s).tape = s.tape :=
  (chargeCycle_timeOnly a n s).tape
@[simp] theorem chargeCycle_drawCount (a : Word) (n : Nat) (s : State) : (chargeCycle a n s).drawCount = s.drawCount :=
  (chargeCycle_timeOnly a n s).drawCount
@[simp] theorem chargeCycle_hostQueue (a : Word) (n : Nat) (s : State) : (chargeCycle a n s).hostQueue = s.hostQueue :=
  (chargeCycle_timeOnly a n s).hostQueue
@[simp] theorem chargeCycle_frameBoundary (a : Word) (n : Nat) (s : State) : (chargeCycle a n s).frameBoundary = s.frameBoundary :=
  (chargeCycle_timeOnly a n s).frameBoundary
@[simp] theorem chargeCycle_hostOk (a : Word) (n : Nat) (s : State) : (chargeCycle a n s).hostOk = s.hostOk :=
  (chargeCycle_timeOnly a n s).hostOk

@[simp] theorem internal_cfg (a : Word) (n : Nat) (s : State) : (internal a n s).cfg = s.cfg :=
  (internal_timeOnly a n s).cfg
@[simp] theorem internal_cpu (a : Word) (n : Nat) (s : State) : (internal a n s).cpu = s.cpu :=
  (internal_timeOnly a n s).cpu
@[simp] theorem internal_paging (a : Word) (n : Nat) (s : State) : (internal a n s).paging = s.paging :=
  (internal_timeOnly a n s).paging
@[simp] theorem internal_ram (a : Word) (n : Nat) (s : State) : (internal a n s).ram = s.ram :=
  (internal_timeOnly a n s).ram
@[simp] theorem internal_rom (a : Word) (n : Nat) (s : State) : (internal a n s).rom = s.rom :=
  (internal_timeOnly a n s).rom
@[simp] theorem internal_ula (a : Word) (n : Nat) (s : State) : (internal a n s).ula = s.ula :=
  (internal_timeOnly a n s).ula
@[simp] theorem internal_ay (a : Word) (n : Nat) (s : State) : (internal a n s).ay = s.ay :=
  (internal_timeOnly a n s).ay
@[simp] theorem internal_disk (a : Word) (n : Nat) (s : State) : (internal a n s).disk = s.disk :=
  (internal_timeOnly a n s).disk
@[simp] theorem internal_tape (a : Word) (n : Nat) (s : State) : (internal a n s).tape = s.tape :=
  (internal_timeOnly a n s).tape
@[simp] theorem internal_drawCount (a : Word) (n : Nat) (s : State) : (internal a n s).drawCount = s.drawCount :=
  (internal_timeOnly a n s).drawCount
@[simp] theorem internal_hostQueue (a : Word) (n : Nat) (s : State) : (internal a n s).hostQueue = s.hostQueue :=
  (internal_timeOnly a n s).hostQueue
@[simp] theorem internal_frameBoundary (a : Word) (n : Nat) (s : State) : (internal a n s).frameBoundary = s.frameBoundary :=
  (internal_timeOnly a n s).frameBoundary
@[simp] theorem internal_hostOk (a : Word) (n : Nat) (s : State) : (internal a n s).hostOk = s.hostOk :=
  (internal_timeOnly a n s).hostOk

@[simp] theorem internalIr_cfg (n : Nat) (s : State) : (internalIr n s).cfg = s.cfg :=
  (internalIr_timeOnly n s).cfg
@[simp] theorem internalIr_cpu (n : Nat) (s : State) : (internalIr n s).cpu = s.cpu :=
  (internalIr_timeOnly n s).cpu
@[simp] theorem internalIr_paging (n : Nat) (s : State) : (internalIr n s).paging = s.paging :=
  (internalIr_timeOnly n s).paging
@[simp] theorem internalIr_ram (n : Nat) (s : State) : (internalIr n s).ram = s.ram :=
  (internalIr_timeOnly n s).ram
@[simp] theorem internalIr_rom (n : Nat) (s : State) : (internalIr n s).rom = s.rom :=
  (internalIr_timeOnly n s).rom
@[simp] theorem internalIr_ula (n : Nat) (s : State) : (internalIr n s).ula = s.ula :=
  (internalIr_timeOnly n s).ula
@[simp] theorem internalIr_ay (n : Nat) (s : State) : (internalIr n s).ay = s.ay :=
  (internalIr_timeOnly n s).ay
@[simp] theorem internalIr_disk (n : Nat) (s : State) : (internalIr n s).disk = s.disk :=
  (internalIr_timeOnly n s).disk
@[simp] theorem internalIr_tape (n : Nat) (s : State) : (internalIr n s).tape = s.tape :=
  (internalIr_timeOnly n s).tape
@[simp] theorem internalIr_drawCount (n : Nat) (s : State) : (internalIr n s).drawCount = s.drawCount :=
  (internalIr_timeOnly n s).drawCount
@[simp] theorem internalIr_hostQueue (n : Nat) (s : State) : (internalIr n s).hostQueue = s.hostQueue :=
  (internalIr_timeOnly n s).hostQueue
@[simp] theorem internalIr_frameBoundary (n : Nat) (s : State) : (internalIr n s).frameBoundary = s.frameBoundary :=
  (internalIr_timeOnly n s).frameBoundary
@[simp] theorem internalIr_hostOk (n : Nat) (s : State) : (internalIr n s).hostOk = s.hostOk :=
  (internalIr_timeOnly n s).hostOk

@[simp] theorem skipRead_cfg (a : Word) (s : State) : (skipRead a s).cfg = s.cfg :=
  (skipRead_timeOnly a s).cfg
@[simp] theorem skipRead_cpu (a : Word) (s : State) : (skipRead a s).cpu = s.cpu :=
  (skipRead_timeOnly a s).cpu
@[simp] theorem skipRead_paging (a : Word) (s : State) : (skipRead a s).paging = s.paging :=
  (skipRead_timeOnly a s).paging
@[simp] theorem skipRead_ram (a : Word) (s : State) : (skipRead a s).ram = s.ram :=
  (skipRead_timeOnly a s).ram
@[simp] theorem skipRead_rom (a : Word) (s : State) : (skipRead a s).rom = s.rom :=
  (skipRead_timeOnly a s).rom
@[simp] theorem skipRead_ula (a : Word) (s : State) : (skipRead a s).ula = s.ula :=
  (skipRead_timeOnly a s).ula
@[simp] theorem skipRead_ay (a : Word) (s : State) : (skipRead a s).ay = s.ay :=
  (skipRead_timeOnly a s).ay
@[simp] theorem skipRead_disk (a : Word) (s : State) : (skipRead a s).disk = s.disk :=
  (skipRead_timeOnly a s).disk
@[simp] theorem skipRead_tape (a : Word) (s : State) : (skipRead a s).tape = s.tape :=
  (skipRead_timeOnly a s).tape
@[simp] theorem skipRead_drawCount (a : Word) (s : State) : (skipRead a s).drawCount = s.drawCount :=
  (skipRead_timeOnly a s).drawCount
@[simp] theorem skipRead_hostQueue (a : Word) (s : State) : (skipRead a s).hostQueue = s.hostQueue :=
  (skipRead_timeOnly a s).hostQueue
@[simp] theorem skipRead_frameBoundary (a : Word) (s : State) : (skipRead a s).frameBoundary = s.frameBoundary :=
  (skipRead_timeOnly a s).frameBoundary
@[simp] theorem skipRead_hostOk (a : Word) (s : State) : (skipRead a s).hostOk = s.hostOk :=
  (skipRead_timeOnly a s).hostOk

@[simp] theorem chargeIo_cfg (p : Word) (s : State) : (chargeIo p s).cfg = s.cfg :=
  (chargeIo_timeOnly p s).cfg
@[simp] theorem chargeIo_cpu (p : Word) (s : State) : (chargeIo p s).cpu = s.cpu :=
  (chargeIo_timeOnly p s).cpu
@[simp] theorem chargeIo_paging (p : Word) (s : State) : (chargeIo p s).paging = s.paging :=
  (chargeIo_timeOnly p s).paging
@[simp] theorem chargeIo_ram (p : Word) (s : State) : (chargeIo p s).ram = s.ram :=
  (chargeIo_timeOnly p s).ram
@[simp] theorem chargeIo_rom (p : Word) (s : State) : (chargeIo p s).rom = s.rom :=
  (chargeIo_timeOnly p s).rom
@[simp] theorem chargeIo_ula (p : Word) (s : State) : (chargeIo p s).ula = s.ula :=
  (chargeIo_timeOnly p s).ula
@[simp] theorem chargeIo_ay (p : Word) (s : State) : (chargeIo p s).ay = s.ay :=
  (chargeIo_timeOnly p s).ay
@[simp] theorem chargeIo_disk (p : Word) (s : State) : (chargeIo p s).disk = s.disk :=
  (chargeIo_timeOnly p s).disk
@[simp] theorem chargeIo_tape (p : Word) (s : State) : (chargeIo p s).tape = s.tape :=
  (chargeIo_timeOnly p s).tape
@[simp] theorem chargeIo_drawCount (p : Word) (s : State) : (chargeIo p s).drawCount = s.drawCount :=
  (chargeIo_timeOnly p s).drawCount
@[simp] theorem chargeIo_hostQueue (p : Word) (s : State) : (chargeIo p s).hostQueue = s.hostQueue :=
  (chargeIo_timeOnly p s).hostQueue
@[simp] theorem chargeIo_frameBoundary (p : Word) (s : State) : (chargeIo p s).frameBoundary = s.frameBoundary :=
  (chargeIo_timeOnly p s).frameBoundary
@[simp] theorem chargeIo_hostOk (p : Word) (s : State) : (chargeIo p s).hostOk = s.hostOk :=
  (chargeIo_timeOnly p s).hostOk

@[simp] theorem fetch_cfg (a : Word) (s : State) : (fetch a s).cfg = s.cfg := by
  simp [fetch]
@[simp] theorem fetch_cpu (a : Word) (s : State) : (fetch a s).cpu = { s.cpu with r := nextR s.cpu.r } := by
  simp [fetch]
@[simp] theorem fetch_paging (a : Word) (s : State) : (fetch a s).paging = fetchPaging s.cfg s.paging a := by
  simp [fetch]
@[simp] theorem fetch_ram (a : Word) (s : State) : (fetch a s).ram = s.ram := by
  simp [fetch]
@[simp] theorem fetch_rom (a : Word) (s : State) : (fetch a s).rom = s.rom := by
  simp [fetch]
@[simp] theorem fetch_ula (a : Word) (s : State) : (fetch a s).ula = s.ula := by
  simp [fetch]
@[simp] theorem fetch_ay (a : Word) (s : State) : (fetch a s).ay = s.ay := by
  simp [fetch]
@[simp] theorem fetch_disk (a : Word) (s : State) : (fetch a s).disk = s.disk := by
  simp [fetch]
@[simp] theorem fetch_tape (a : Word) (s : State) : (fetch a s).tape = s.tape := by
  simp [fetch]
@[simp] theorem fetch_drawCount (a : Word) (s : State) : (fetch a s).drawCount = s.drawCount := by
  simp [fetch]
@[simp] theorem fetch_hostQueue (a : Word) (s : State) : (fetch a s).hostQueue = s.hostQueue := by
  simp [fetch]
@[simp] theorem fetch_frameBoundary (a : Word) (s : State) : (fetch a s).frameBoundary = s.frameBoundary := by
  simp [fetch]
@[simp] theorem fetch_hostOk (a : Word) (s : State) : (fetch a s).hostOk = s.hostOk := by
  simp [fetch]

@[simp] theorem readByte_eq (s : State) (a : Word) : s.readByte a = readThrough s.paging s.rom s.ram a := rfl

@[simp] theorem memRead_fst (a : Word) (s : State) :
    (memRead a s).1 = readThrough s.paging s.rom s.ram a := by
  simp [memRead]

@[simp] theorem memRead_cfg (a : Word) (s : State) : ((memRead a s).2).cfg = s.cfg := by
  simp [memRead]
@[simp] theorem memRead_cpu (a : Word) (s : State) : ((memRead a s).2).cpu = s.cpu := by
  simp [memRead]
@[simp] theorem memRead_paging (a : Word) (s : State) : ((memRead a s).2).paging = s.paging := by
  simp [memRead]
@[simp] theorem memRead_ram (a : Word) (s : State) : ((memRead a s).2).ram = s.ram := by
  simp [memRead]
@[simp] theorem memRead_rom (a : Word) (s : State) : ((memRead a s).2).rom = s.rom := by
  simp [memRead]
@[simp] theorem memRead_ula (a : Word) (s : State) : ((memRead a s).2).ula = s.ula := by
  simp [memRead]
@[simp] theorem memRead_ay (a : Word) (s : State) : ((memRead a s).2).ay = s.ay := by
  simp [memRead]
@[simp] theorem memRead_disk (a : Word) (s : State) : ((memRead a s).2).disk = s.disk := by
  simp [memRead]
@[simp] theorem memRead_tape (a : Word) (s : State) : ((memRead a s).2).tape = s.tape := by
  simp [memRead]
@[simp] theorem memRead_drawCount (a : Word) (s : State) : ((memRead a s).2).drawCount = s.drawCount := by
  simp [memRead]
@[simp] theorem memRead_hostQueue (a : Word) (s : State) : ((memRead a s).2).hostQueue = s.hostQueue := by
  simp [memRead]
@[simp] theorem memRead_frameBoundary (a : Word) (s : State) : ((memRead a s).2).frameBoundary = s.frameBoundary := by
  simp [memRead]
@[simp] theorem memRead_hostOk (a : Word) (s : State) : ((memRead a s).2).hostOk = s.hostOk := by
  simp [memRead]

@[simp] theorem memReadWord_fst (a : Word) (s : State) :
    (memReadWord a s).1 = mkWord (readThrough s.paging s.rom s.ram (a + 1))
      (readThrough s.paging s.rom s.ram a) := by
  simp [memReadWord]

@[simp] theorem memReadWord_cfg (a : Word) (s : State) : ((memReadWord a s).2).cfg = s.cfg := by
  simp [memReadWord]
@[simp] theorem memReadWord_cpu (a : Word) (s : State) : ((memReadWord a s).2).cpu = s.cpu := by
  simp [memReadWord]
@[simp] theorem memReadWord_paging (a : Word) (s : State) : ((memReadWord a s).2).paging = s.paging := by
  simp [memReadWord]
@[simp] theorem memReadWord_ram (a : Word) (s : State) : ((memReadWord a s).2).ram = s.ram := by
  simp [memReadWord]
@[simp] theorem memReadWord_rom (a : Word) (s : State) : ((memReadWord a s).2).rom = s.rom := by
  simp [memReadWord]
@[simp] theorem memReadWord_ula (a : Word) (s : State) : ((memReadWord a s).2).ula = s.ula := by
  simp [memReadWord]
@[simp] theorem memReadWord_ay (a : Word) (s : State) : ((memReadWord a s).2).ay = s.ay := by
  simp [memReadWord]
@[simp] theorem memReadWord_disk (a : Word) (s : State) : ((memReadWord a s).2).disk = s.disk := by
  simp [memReadWord]
@[simp] theorem memReadWord_tape (a : Word) (s : State) : ((memReadWord a s).2).tape = s.tape := by
  simp [memReadWord]
@[simp] theorem memReadWord_drawCount (a : Word) (s : State) : ((memReadWord a s).2).drawCount = s.drawCount := by
  simp [memReadWord]
@[simp] theorem memReadWord_hostQueue (a : Word) (s : State) : ((memReadWord a s).2).hostQueue = s.hostQueue := by
  simp [memReadWord]
@[simp] theorem memReadWord_frameBoundary (a : Word) (s : State) : ((memReadWord a s).2).frameBoundary = s.frameBoundary := by
  simp [memReadWord]
@[simp] theorem memReadWord_hostOk (a : Word) (s : State) : ((memReadWord a s).2).hostOk = s.hostOk := by
  simp [memReadWord]

@[simp] theorem memWrite_cfg (a : Word) (v : Byte) (s : State) : (memWrite a v s).cfg = s.cfg := by
  simp [memWrite]
@[simp] theorem memWrite_cpu (a : Word) (v : Byte) (s : State) : (memWrite a v s).cpu = s.cpu := by
  simp [memWrite]
@[simp] theorem memWrite_paging (a : Word) (v : Byte) (s : State) : (memWrite a v s).paging = s.paging := by
  simp [memWrite]
@[simp] theorem memWrite_ram (a : Word) (v : Byte) (s : State) : (memWrite a v s).ram = writeThrough s.paging s.ram a v := by
  simp [memWrite]
@[simp] theorem memWrite_rom (a : Word) (v : Byte) (s : State) : (memWrite a v s).rom = s.rom := by
  simp [memWrite]
@[simp] theorem memWrite_ula (a : Word) (v : Byte) (s : State) : (memWrite a v s).ula = s.ula := by
  simp [memWrite]
@[simp] theorem memWrite_ay (a : Word) (v : Byte) (s : State) : (memWrite a v s).ay = s.ay := by
  simp [memWrite]
@[simp] theorem memWrite_disk (a : Word) (v : Byte) (s : State) : (memWrite a v s).disk = s.disk := by
  simp [memWrite]
@[simp] theorem memWrite_tape (a : Word) (v : Byte) (s : State) : (memWrite a v s).tape = s.tape := by
  simp [memWrite]
@[simp] theorem memWrite_drawCount (a : Word) (v : Byte) (s : State) : (memWrite a v s).drawCount = s.drawCount := by
  simp [memWrite]
@[simp] theorem memWrite_hostQueue (a : Word) (v : Byte) (s : State) : (memWrite a v s).hostQueue = s.hostQueue := by
  simp [memWrite]
@[simp] theorem memWrite_frameBoundary (a : Word) (v : Byte) (s : State) : (memWrite a v s).frameBoundary = s.frameBoundary := by
  simp [memWrite]
@[simp] theorem memWrite_hostOk (a : Word) (v : Byte) (s : State) : (memWrite a v s).hostOk = s.hostOk := by
  simp [memWrite]

@[simp] theorem memWriteWord_cfg (a v : Word) (s : State) : (memWriteWord a v s).cfg = s.cfg := by
  simp [memWriteWord]
@[simp] theorem memWriteWord_cpu (a v : Word) (s : State) : (memWriteWord a v s).cpu = s.cpu := by
  simp [memWriteWord]
@[simp] theorem memWriteWord_paging (a v : Word) (s : State) : (memWriteWord a v s).paging = s.paging := by
  simp [memWriteWord]
@[simp] theorem memWriteWord_ram (a v : Word) (s : State) : (memWriteWord a v s).ram = writeThrough s.paging (writeThrough s.paging s.ram a (loByte v)) (a + 1) (hiByte v) := by
  simp [memWriteWord]
@[simp] theorem memWriteWord_rom (a v : Word) (s : State) : (memWriteWord a v s).rom = s.rom := by
  simp [memWriteWord]
@[simp] theorem memWriteWord_ula (a v : Word) (s : State) : (memWriteWord a v s).ula = s.ula := by
  simp [memWriteWord]
@[simp] theorem memWriteWord_ay (a v : Word) (s : State) : (memWriteWord a v s).ay = s.ay := by
  simp [memWriteWord]
@[simp] theorem memWriteWord_disk (a v : Word) (s : State) : (memWriteWord a v s).disk = s.disk := by
  simp [memWriteWord]
@[simp] theorem memWriteWord_tape (a v : Word) (s : State) : (memWriteWord a v s).tape = s.tape := by
  simp [memWriteWord]
@[simp] theorem memWriteWord_drawCount (a v : Word) (s : State) : (memWriteWord a v s).drawCount = s.drawCount := by
  simp [memWriteWord]
@[simp] theorem memWriteWord_hostQueue (a v : Word) (s : State) : (memWriteWord a v s).hostQueue = s.hostQueue := by
  simp [memWriteWord]
@[simp] theorem memWriteWord_frameBoundary (a v : Word) (s : State) : (memWriteWord a v s).frameBoundary = s.frameBoundary := by
  simp [memWriteWord]
@[simp] theorem memWriteWord_hostOk (a v : Word) (s : State) : (memWriteWord a v s).hostOk = s.hostOk := by
  simp [memWriteWord]

@[simp] theorem push_cfg (w : Word) (s : State) : (push w s).cfg = s.cfg := by
  simp [push]
@[simp] theorem push_cpu (w : Word) (s : State) : (push w s).cpu = { s.cpu with sp := s.cpu.sp - 2 } := by
  simp [push]
@[simp] theorem push_paging (w : Word) (s : State) : (push w s).paging = s.paging := by
  simp [push]
@[simp] theorem push_ram (w : Word) (s : State) : (push w s).ram = writeThrough s.paging
      (writeThrough s.paging s.ram (s.cpu.sp - 1) (hiByte w)) (s.cpu.sp - 2) (loByte w) := by
  simp [push]
@[simp] theorem push_rom (w : Word) (s : State) : (push w s).rom = s.rom := by
  simp [push]
@[simp] theorem push_ula (w : Word) (s : State) : (push w s).ula = s.ula := by
  simp [push]
@[simp] theorem push_ay (w : Word) (s : State) : (push w s).ay = s.ay := by
  simp [push]
@[simp] theorem push_disk (w : Word) (s : State) : (push w s).disk = s.disk := by
  simp [push]
@[simp] theorem push_tape (w : Word) (s : State) : (push w s).tape = s.tape := by
  simp [push]
@[simp] theorem push_drawCount (w : Word) (s : State) : (push w s).drawCount = s.drawCount := by
  simp [push]
@[simp] theorem push_hostQueue (w : Word) (s : State) : (push w s).hostQueue = s.hostQueue := by
  simp [push]
@[simp] theorem push_frameBoundary (w : Word) (s : State) : (push w s).frameBoundary = s.frameBoundary := by
  simp [push]
@[simp] theorem push_hostOk (w : Word) (s : State) : (push w s).hostOk = s.hostOk := by
  simp [push]

@[simp] theorem pop_fst (s : State) :
    (pop s).1 = mkWord (readThrough s.paging s.rom s.ram (s.cpu.sp + 1))
      (readThrough s.paging s.rom s.ram s.cpu.sp) := by
  simp [pop]

@[simp] theorem pop_cfg (s : State) : ((pop s).2).cfg = s.cfg := by
  simp [pop]
@[simp] theorem pop_cpu (s : State) : ((pop s).2).cpu = { s.cpu with sp := s.cpu.sp + 2 } := by
  simp [pop]
@[simp] theorem pop_paging (s : State) : ((pop s).2).paging = s.paging := by
  simp [pop]
@[simp] theorem pop_ram (s : State) : ((pop s).2).ram = s.ram := by
  simp [pop]
@[simp] theorem pop_rom (s : State) : ((pop s).2).rom = s.rom := by
  simp [pop]
@[simp] theorem pop_ula (s : State) : ((pop s).2).ula = s.ula := by
  simp [pop]
@[simp] theorem pop_ay (s : State) : ((pop s).2).ay = s.ay := by
  simp [pop]
@[simp] theorem pop_disk (s : State) : ((pop s).2).disk = s.disk := by
  simp [pop]
@[simp] theorem pop_tape (s : State) : ((pop s).2).tape = s.tape := by
  simp [pop]
@[simp] theorem pop_drawCount (s : State) : ((pop s).2).drawCount = s.drawCount := by
  simp [pop]
@[simp] theorem pop_hostQueue (s : State) : ((pop s).2).hostQueue = s.hostQueue := by
  simp [pop]
@[simp] theorem pop_frameBoundary (s : State) : ((pop s).2).frameBoundary = s.frameBoundary := by
  simp [pop]
@[simp] theorem pop_hostOk (s : State) : ((pop s).2).hostOk = s.hostOk := by
  simp [pop]

/-! ## Operand forms -/

@[simp] theorem fetchOp_cfg (s : State) : (fetchOp s).cfg = s.cfg := by
  simp [fetchOp]
@[simp] theorem fetchOp_cpu (s : State) : (fetchOp s).cpu = { s.cpu with r := nextR s.cpu.r } := by
  simp [fetchOp]
@[simp] theorem fetchOp_paging (s : State) : (fetchOp s).paging = pagingAfter1 s := by
  simp [fetchOp, pagingAfter1]
@[simp] theorem fetchOp_ram (s : State) : (fetchOp s).ram = s.ram := by
  simp [fetchOp]
@[simp] theorem fetchOp_rom (s : State) : (fetchOp s).rom = s.rom := by
  simp [fetchOp]
@[simp] theorem fetchOp_ula (s : State) : (fetchOp s).ula = s.ula := by
  simp [fetchOp]
@[simp] theorem fetchOp_ay (s : State) : (fetchOp s).ay = s.ay := by
  simp [fetchOp]
@[simp] theorem fetchOp_disk (s : State) : (fetchOp s).disk = s.disk := by
  simp [fetchOp]
@[simp] theorem fetchOp_tape (s : State) : (fetchOp s).tape = s.tape := by
  simp [fetchOp]
@[simp] theorem fetchOp_drawCount (s : State) : (fetchOp s).drawCount = s.drawCount := by
  simp [fetchOp]
@[simp] theorem fetchOp_hostQueue (s : State) : (fetchOp s).hostQueue = s.hostQueue := by
  simp [fetchOp]
@[simp] theorem fetchOp_frameBoundary (s : State) : (fetchOp s).frameBoundary = s.frameBoundary := by
  simp [fetchOp]
@[simp] theorem fetchOp_hostOk (s : State) : (fetchOp s).hostOk = s.hostOk := by
  simp [fetchOp]

@[simp] theorem fetchOpN_cfg (s : State) : (fetchOpN s).cfg = s.cfg := by
  simp [fetchOpN]
@[simp] theorem fetchOpN_cpu (s : State) : (fetchOpN s).cpu = { s.cpu with r := nextR s.cpu.r } := by
  simp [fetchOpN]
@[simp] theorem fetchOpN_paging (s : State) : (fetchOpN s).paging = pagingAfter1 s := by
  simp [fetchOpN]
@[simp] theorem fetchOpN_ram (s : State) : (fetchOpN s).ram = s.ram := by
  simp [fetchOpN]
@[simp] theorem fetchOpN_rom (s : State) : (fetchOpN s).rom = s.rom := by
  simp [fetchOpN]
@[simp] theorem fetchOpN_ula (s : State) : (fetchOpN s).ula = s.ula := by
  simp [fetchOpN]
@[simp] theorem fetchOpN_ay (s : State) : (fetchOpN s).ay = s.ay := by
  simp [fetchOpN]
@[simp] theorem fetchOpN_disk (s : State) : (fetchOpN s).disk = s.disk := by
  simp [fetchOpN]
@[simp] theorem fetchOpN_tape (s : State) : (fetchOpN s).tape = s.tape := by
  simp [fetchOpN]
@[simp] theorem fetchOpN_drawCount (s : State) : (fetchOpN s).drawCount = s.drawCount := by
  simp [fetchOpN]
@[simp] theorem fetchOpN_hostQueue (s : State) : (fetchOpN s).hostQueue = s.hostQueue := by
  simp [fetchOpN]
@[simp] theorem fetchOpN_frameBoundary (s : State) : (fetchOpN s).frameBoundary = s.frameBoundary := by
  simp [fetchOpN]
@[simp] theorem fetchOpN_hostOk (s : State) : (fetchOpN s).hostOk = s.hostOk := by
  simp [fetchOpN]

@[simp] theorem fetchOpNn_cfg (s : State) : (fetchOpNn s).cfg = s.cfg := by
  simp [fetchOpNn]
@[simp] theorem fetchOpNn_cpu (s : State) : (fetchOpNn s).cpu = { s.cpu with r := nextR s.cpu.r } := by
  simp [fetchOpNn]
@[simp] theorem fetchOpNn_paging (s : State) : (fetchOpNn s).paging = pagingAfter1 s := by
  simp [fetchOpNn]
@[simp] theorem fetchOpNn_ram (s : State) : (fetchOpNn s).ram = s.ram := by
  simp [fetchOpNn]
@[simp] theorem fetchOpNn_rom (s : State) : (fetchOpNn s).rom = s.rom := by
  simp [fetchOpNn]
@[simp] theorem fetchOpNn_ula (s : State) : (fetchOpNn s).ula = s.ula := by
  simp [fetchOpNn]
@[simp] theorem fetchOpNn_ay (s : State) : (fetchOpNn s).ay = s.ay := by
  simp [fetchOpNn]
@[simp] theorem fetchOpNn_disk (s : State) : (fetchOpNn s).disk = s.disk := by
  simp [fetchOpNn]
@[simp] theorem fetchOpNn_tape (s : State) : (fetchOpNn s).tape = s.tape := by
  simp [fetchOpNn]
@[simp] theorem fetchOpNn_drawCount (s : State) : (fetchOpNn s).drawCount = s.drawCount := by
  simp [fetchOpNn]
@[simp] theorem fetchOpNn_hostQueue (s : State) : (fetchOpNn s).hostQueue = s.hostQueue := by
  simp [fetchOpNn]
@[simp] theorem fetchOpNn_frameBoundary (s : State) : (fetchOpNn s).frameBoundary = s.frameBoundary := by
  simp [fetchOpNn]
@[simp] theorem fetchOpNn_hostOk (s : State) : (fetchOpNn s).hostOk = s.hostOk := by
  simp [fetchOpNn]

@[simp] theorem fetchOp2_cfg (s : State) : (fetchOp2 s).cfg = s.cfg := by
  simp [fetchOp2]
@[simp] theorem fetchOp2_cpu (s : State) : (fetchOp2 s).cpu = { s.cpu with r := nextR (nextR s.cpu.r) } := by
  simp [fetchOp2]
@[simp] theorem fetchOp2_paging (s : State) : (fetchOp2 s).paging = pagingAfter2 s := by
  simp [fetchOp2, pagingAfter2, pagingAfter1]
@[simp] theorem fetchOp2_ram (s : State) : (fetchOp2 s).ram = s.ram := by
  simp [fetchOp2]
@[simp] theorem fetchOp2_rom (s : State) : (fetchOp2 s).rom = s.rom := by
  simp [fetchOp2]
@[simp] theorem fetchOp2_ula (s : State) : (fetchOp2 s).ula = s.ula := by
  simp [fetchOp2]
@[simp] theorem fetchOp2_ay (s : State) : (fetchOp2 s).ay = s.ay := by
  simp [fetchOp2]
@[simp] theorem fetchOp2_disk (s : State) : (fetchOp2 s).disk = s.disk := by
  simp [fetchOp2]
@[simp] theorem fetchOp2_tape (s : State) : (fetchOp2 s).tape = s.tape := by
  simp [fetchOp2]
@[simp] theorem fetchOp2_drawCount (s : State) : (fetchOp2 s).drawCount = s.drawCount := by
  simp [fetchOp2]
@[simp] theorem fetchOp2_hostQueue (s : State) : (fetchOp2 s).hostQueue = s.hostQueue := by
  simp [fetchOp2]
@[simp] theorem fetchOp2_frameBoundary (s : State) : (fetchOp2 s).frameBoundary = s.frameBoundary := by
  simp [fetchOp2]
@[simp] theorem fetchOp2_hostOk (s : State) : (fetchOp2 s).hostOk = s.hostOk := by
  simp [fetchOp2]

@[simp] theorem fetchOp2N_cfg (s : State) : (fetchOp2N s).cfg = s.cfg := by
  simp [fetchOp2N]
@[simp] theorem fetchOp2N_cpu (s : State) : (fetchOp2N s).cpu = { s.cpu with r := nextR (nextR s.cpu.r) } := by
  simp [fetchOp2N]
@[simp] theorem fetchOp2N_paging (s : State) : (fetchOp2N s).paging = pagingAfter2 s := by
  simp [fetchOp2N]
@[simp] theorem fetchOp2N_ram (s : State) : (fetchOp2N s).ram = s.ram := by
  simp [fetchOp2N]
@[simp] theorem fetchOp2N_rom (s : State) : (fetchOp2N s).rom = s.rom := by
  simp [fetchOp2N]
@[simp] theorem fetchOp2N_ula (s : State) : (fetchOp2N s).ula = s.ula := by
  simp [fetchOp2N]
@[simp] theorem fetchOp2N_ay (s : State) : (fetchOp2N s).ay = s.ay := by
  simp [fetchOp2N]
@[simp] theorem fetchOp2N_disk (s : State) : (fetchOp2N s).disk = s.disk := by
  simp [fetchOp2N]
@[simp] theorem fetchOp2N_tape (s : State) : (fetchOp2N s).tape = s.tape := by
  simp [fetchOp2N]
@[simp] theorem fetchOp2N_drawCount (s : State) : (fetchOp2N s).drawCount = s.drawCount := by
  simp [fetchOp2N]
@[simp] theorem fetchOp2N_hostQueue (s : State) : (fetchOp2N s).hostQueue = s.hostQueue := by
  simp [fetchOp2N]
@[simp] theorem fetchOp2N_frameBoundary (s : State) : (fetchOp2N s).frameBoundary = s.frameBoundary := by
  simp [fetchOp2N]
@[simp] theorem fetchOp2N_hostOk (s : State) : (fetchOp2N s).hostOk = s.hostOk := by
  simp [fetchOp2N]

@[simp] theorem fetchOp2Nn_cfg (s : State) : (fetchOp2Nn s).cfg = s.cfg := by
  simp [fetchOp2Nn]
@[simp] theorem fetchOp2Nn_cpu (s : State) : (fetchOp2Nn s).cpu = { s.cpu with r := nextR (nextR s.cpu.r) } := by
  simp [fetchOp2Nn]
@[simp] theorem fetchOp2Nn_paging (s : State) : (fetchOp2Nn s).paging = pagingAfter2 s := by
  simp [fetchOp2Nn]
@[simp] theorem fetchOp2Nn_ram (s : State) : (fetchOp2Nn s).ram = s.ram := by
  simp [fetchOp2Nn]
@[simp] theorem fetchOp2Nn_rom (s : State) : (fetchOp2Nn s).rom = s.rom := by
  simp [fetchOp2Nn]
@[simp] theorem fetchOp2Nn_ula (s : State) : (fetchOp2Nn s).ula = s.ula := by
  simp [fetchOp2Nn]
@[simp] theorem fetchOp2Nn_ay (s : State) : (fetchOp2Nn s).ay = s.ay := by
  simp [fetchOp2Nn]
@[simp] theorem fetchOp2Nn_disk (s : State) : (fetchOp2Nn s).disk = s.disk := by
  simp [fetchOp2Nn]
@[simp] theorem fetchOp2Nn_tape (s : State) : (fetchOp2Nn s).tape = s.tape := by
  simp [fetchOp2Nn]
@[simp] theorem fetchOp2Nn_drawCount (s : State) : (fetchOp2Nn s).drawCount = s.drawCount := by
  simp [fetchOp2Nn]
@[simp] theorem fetchOp2Nn_hostQueue (s : State) : (fetchOp2Nn s).hostQueue = s.hostQueue := by
  simp [fetchOp2Nn]
@[simp] theorem fetchOp2Nn_frameBoundary (s : State) : (fetchOp2Nn s).frameBoundary = s.frameBoundary := by
  simp [fetchOp2Nn]
@[simp] theorem fetchOp2Nn_hostOk (s : State) : (fetchOp2Nn s).hostOk = s.hostOk := by
  simp [fetchOp2Nn]

@[simp] theorem fetchIdx_cfg (s : State) : (fetchIdx s).cfg = s.cfg := by
  simp [fetchIdx]
@[simp] theorem fetchIdx_cpu (s : State) : (fetchIdx s).cpu = { s.cpu with r := nextR (nextR s.cpu.r) } := by
  simp [fetchIdx]
@[simp] theorem fetchIdx_paging (s : State) : (fetchIdx s).paging = pagingAfter2 s := by
  simp [fetchIdx]
@[simp] theorem fetchIdx_ram (s : State) : (fetchIdx s).ram = s.ram := by
  simp [fetchIdx]
@[simp] theorem fetchIdx_rom (s : State) : (fetchIdx s).rom = s.rom := by
  simp [fetchIdx]
@[simp] theorem fetchIdx_ula (s : State) : (fetchIdx s).ula = s.ula := by
  simp [fetchIdx]
@[simp] theorem fetchIdx_ay (s : State) : (fetchIdx s).ay = s.ay := by
  simp [fetchIdx]
@[simp] theorem fetchIdx_disk (s : State) : (fetchIdx s).disk = s.disk := by
  simp [fetchIdx]
@[simp] theorem fetchIdx_tape (s : State) : (fetchIdx s).tape = s.tape := by
  simp [fetchIdx]
@[simp] theorem fetchIdx_drawCount (s : State) : (fetchIdx s).drawCount = s.drawCount := by
  simp [fetchIdx]
@[simp] theorem fetchIdx_hostQueue (s : State) : (fetchIdx s).hostQueue = s.hostQueue := by
  simp [fetchIdx]
@[simp] theorem fetchIdx_frameBoundary (s : State) : (fetchIdx s).frameBoundary = s.frameBoundary := by
  simp [fetchIdx]
@[simp] theorem fetchIdx_hostOk (s : State) : (fetchIdx s).hostOk = s.hostOk := by
  simp [fetchIdx]

@[simp] theorem fetchXcb_cfg (s : State) : (fetchXcb s).cfg = s.cfg := by
  simp [fetchXcb]
@[simp] theorem fetchXcb_cpu (s : State) : (fetchXcb s).cpu = { s.cpu with r := nextR (nextR s.cpu.r) } := by
  simp [fetchXcb]
@[simp] theorem fetchXcb_paging (s : State) : (fetchXcb s).paging = pagingAfter2 s := by
  simp [fetchXcb]
@[simp] theorem fetchXcb_ram (s : State) : (fetchXcb s).ram = s.ram := by
  simp [fetchXcb]
@[simp] theorem fetchXcb_rom (s : State) : (fetchXcb s).rom = s.rom := by
  simp [fetchXcb]
@[simp] theorem fetchXcb_ula (s : State) : (fetchXcb s).ula = s.ula := by
  simp [fetchXcb]
@[simp] theorem fetchXcb_ay (s : State) : (fetchXcb s).ay = s.ay := by
  simp [fetchXcb]
@[simp] theorem fetchXcb_disk (s : State) : (fetchXcb s).disk = s.disk := by
  simp [fetchXcb]
@[simp] theorem fetchXcb_tape (s : State) : (fetchXcb s).tape = s.tape := by
  simp [fetchXcb]
@[simp] theorem fetchXcb_drawCount (s : State) : (fetchXcb s).drawCount = s.drawCount := by
  simp [fetchXcb]
@[simp] theorem fetchXcb_hostQueue (s : State) : (fetchXcb s).hostQueue = s.hostQueue := by
  simp [fetchXcb]
@[simp] theorem fetchXcb_frameBoundary (s : State) : (fetchXcb s).frameBoundary = s.frameBoundary := by
  simp [fetchXcb]
@[simp] theorem fetchXcb_hostOk (s : State) : (fetchXcb s).hostOk = s.hostOk := by
  simp [fetchXcb]

@[simp] theorem srcMHl_fst (s : State) : (srcMHl s).1 = readAfter1 s s.cpu.hl := by
  simp [srcMHl, readAfter1]

@[simp] theorem srcMHl_cfg (s : State) : ((srcMHl s).2).cfg = s.cfg := by
  simp [srcMHl]
@[simp] theorem srcMHl_cpu (s : State) : ((srcMHl s).2).cpu = { s.cpu with r := nextR s.cpu.r } := by
  simp [srcMHl]
@[simp] theorem srcMHl_paging (s : State) : ((srcMHl s).2).paging = pagingAfter1 s := by
  simp [srcMHl]
@[simp] theorem srcMHl_ram (s : State) : ((srcMHl s).2).ram = s.ram := by
  simp [srcMHl]
@[simp] theorem srcMHl_rom (s : State) : ((srcMHl s).2).rom = s.rom := by
  simp [srcMHl]
@[simp] theorem srcMHl_ula (s : State) : ((srcMHl s).2).ula = s.ula := by
  simp [srcMHl]
@[simp] theorem srcMHl_ay (s : State) : ((srcMHl s).2).ay = s.ay := by
  simp [srcMHl]
@[simp] theorem srcMHl_disk (s : State) : ((srcMHl s).2).disk = s.disk := by
  simp [srcMHl]
@[simp] theorem srcMHl_tape (s : State) : ((srcMHl s).2).tape = s.tape := by
  simp [srcMHl]
@[simp] theorem srcMHl_drawCount (s : State) : ((srcMHl s).2).drawCount = s.drawCount := by
  simp [srcMHl]
@[simp] theorem srcMHl_hostQueue (s : State) : ((srcMHl s).2).hostQueue = s.hostQueue := by
  simp [srcMHl]
@[simp] theorem srcMHl_frameBoundary (s : State) : ((srcMHl s).2).frameBoundary = s.frameBoundary := by
  simp [srcMHl]
@[simp] theorem srcMHl_hostOk (s : State) : ((srcMHl s).2).hostOk = s.hostOk := by
  simp [srcMHl]

@[simp] theorem srcMIx_fst (i : Idx) (d : Byte) (s : State) :
    (srcMIx i d s).1 = readAfter2 s (s.cpu.ea i d) := by
  simp [srcMIx, readAfter2]

@[simp] theorem srcMIx_cfg (i : Idx) (d : Byte) (s : State) : ((srcMIx i d s).2).cfg = s.cfg := by
  simp [srcMIx]
@[simp] theorem srcMIx_cpu (i : Idx) (d : Byte) (s : State) : ((srcMIx i d s).2).cpu = { s.cpu with r := nextR (nextR s.cpu.r) } := by
  simp [srcMIx]
@[simp] theorem srcMIx_paging (i : Idx) (d : Byte) (s : State) : ((srcMIx i d s).2).paging = pagingAfter2 s := by
  simp [srcMIx]
@[simp] theorem srcMIx_ram (i : Idx) (d : Byte) (s : State) : ((srcMIx i d s).2).ram = s.ram := by
  simp [srcMIx]
@[simp] theorem srcMIx_rom (i : Idx) (d : Byte) (s : State) : ((srcMIx i d s).2).rom = s.rom := by
  simp [srcMIx]
@[simp] theorem srcMIx_ula (i : Idx) (d : Byte) (s : State) : ((srcMIx i d s).2).ula = s.ula := by
  simp [srcMIx]
@[simp] theorem srcMIx_ay (i : Idx) (d : Byte) (s : State) : ((srcMIx i d s).2).ay = s.ay := by
  simp [srcMIx]
@[simp] theorem srcMIx_disk (i : Idx) (d : Byte) (s : State) : ((srcMIx i d s).2).disk = s.disk := by
  simp [srcMIx]
@[simp] theorem srcMIx_tape (i : Idx) (d : Byte) (s : State) : ((srcMIx i d s).2).tape = s.tape := by
  simp [srcMIx]
@[simp] theorem srcMIx_drawCount (i : Idx) (d : Byte) (s : State) : ((srcMIx i d s).2).drawCount = s.drawCount := by
  simp [srcMIx]
@[simp] theorem srcMIx_hostQueue (i : Idx) (d : Byte) (s : State) : ((srcMIx i d s).2).hostQueue = s.hostQueue := by
  simp [srcMIx]
@[simp] theorem srcMIx_frameBoundary (i : Idx) (d : Byte) (s : State) : ((srcMIx i d s).2).frameBoundary = s.frameBoundary := by
  simp [srcMIx]
@[simp] theorem srcMIx_hostOk (i : Idx) (d : Byte) (s : State) : ((srcMIx i d s).2).hostOk = s.hostOk := by
  simp [srcMIx]

@[simp] theorem modify_fst (a : Word) (f : Byte → Byte) (s : State) :
    (modify a f s).1 = readThrough s.paging s.rom s.ram a := by
  simp [modify]

@[simp] theorem modify_cfg (a : Word) (f : Byte → Byte) (s : State) : ((modify a f s).2).cfg = s.cfg := by
  simp [modify]
@[simp] theorem modify_cpu (a : Word) (f : Byte → Byte) (s : State) : ((modify a f s).2).cpu = s.cpu := by
  simp [modify]
@[simp] theorem modify_paging (a : Word) (f : Byte → Byte) (s : State) : ((modify a f s).2).paging = s.paging := by
  simp [modify]
@[simp] theorem modify_ram (a : Word) (f : Byte → Byte) (s : State) : ((modify a f s).2).ram = writeThrough s.paging s.ram a (f (readThrough s.paging s.rom s.ram a)) := by
  simp [modify]
@[simp] theorem modify_rom (a : Word) (f : Byte → Byte) (s : State) : ((modify a f s).2).rom = s.rom := by
  simp [modify]
@[simp] theorem modify_ula (a : Word) (f : Byte → Byte) (s : State) : ((modify a f s).2).ula = s.ula := by
  simp [modify]
@[simp] theorem modify_ay (a : Word) (f : Byte → Byte) (s : State) : ((modify a f s).2).ay = s.ay := by
  simp [modify]
@[simp] theorem modify_disk (a : Word) (f : Byte → Byte) (s : State) : ((modify a f s).2).disk = s.disk := by
  simp [modify]
@[simp] theorem modify_tape (a : Word) (f : Byte → Byte) (s : State) : ((modify a f s).2).tape = s.tape := by
  simp [modify]
@[simp] theorem modify_drawCount (a : Word) (f : Byte → Byte) (s : State) : ((modify a f s).2).drawCount = s.drawCount := by
  simp [modify]
@[simp] theorem modify_hostQueue (a : Word) (f : Byte → Byte) (s : State) : ((modify a f s).2).hostQueue = s.hostQueue := by
  simp [modify]
@[simp] theorem modify_frameBoundary (a : Word) (f : Byte → Byte) (s : State) : ((modify a f s).2).frameBoundary = s.frameBoundary := by
  simp [modify]
@[simp] theorem modify_hostOk (a : Word) (f : Byte → Byte) (s : State) : ((modify a f s).2).hostOk = s.hostOk := by
  simp [modify]

@[simp] theorem probe_fst (a : Word) (s : State) :
    (probe a s).1 = readThrough s.paging s.rom s.ram a := by
  simp [probe]

@[simp] theorem probe_cfg (a : Word) (s : State) : ((probe a s).2).cfg = s.cfg := by
  simp [probe]
@[simp] theorem probe_cpu (a : Word) (s : State) : ((probe a s).2).cpu = s.cpu := by
  simp [probe]
@[simp] theorem probe_paging (a : Word) (s : State) : ((probe a s).2).paging = s.paging := by
  simp [probe]
@[simp] theorem probe_ram (a : Word) (s : State) : ((probe a s).2).ram = s.ram := by
  simp [probe]
@[simp] theorem probe_rom (a : Word) (s : State) : ((probe a s).2).rom = s.rom := by
  simp [probe]
@[simp] theorem probe_ula (a : Word) (s : State) : ((probe a s).2).ula = s.ula := by
  simp [probe]
@[simp] theorem probe_ay (a : Word) (s : State) : ((probe a s).2).ay = s.ay := by
  simp [probe]
@[simp] theorem probe_disk (a : Word) (s : State) : ((probe a s).2).disk = s.disk := by
  simp [probe]
@[simp] theorem probe_tape (a : Word) (s : State) : ((probe a s).2).tape = s.tape := by
  simp [probe]
@[simp] theorem probe_drawCount (a : Word) (s : State) : ((probe a s).2).drawCount = s.drawCount := by
  simp [probe]
@[simp] theorem probe_hostQueue (a : Word) (s : State) : ((probe a s).2).hostQueue = s.hostQueue := by
  simp [probe]
@[simp] theorem probe_frameBoundary (a : Word) (s : State) : ((probe a s).2).frameBoundary = s.frameBoundary := by
  simp [probe]
@[simp] theorem probe_hostOk (a : Word) (s : State) : ((probe a s).2).hostOk = s.hostOk := by
  simp [probe]

end Sys2Proof.Machine
end

