-- ==== Sys2Proof/Laws/Closed.lean ====
section
/-! SUPPORT. What an instruction can do to the state, said once: a property that every bus primitive, a
change of the Z80's registers, a port access, a draw and a WD1793 command keep is kept by every
instruction (`exec_closed`), by interrupt acceptance and by a halted step (`loopStep_closed`). -/

namespace Sys2Proof.Machine

/-- Every change an instruction is made of keeps `P`. -/
structure Closed (P : State → Prop) : Prop where
  cpu : ∀ s c, P s → P { s with cpu := c }
  time : ∀ s k, P s → P (advance k s)
  fetchPg : ∀ s a, P s → P { s with paging := fetchPaging s.cfg s.paging a }
  store : ∀ s a v, P s → P (s.writeByte a v)
  portIn : ∀ s p, P s → P (portRead p s).2
  portOut : ∀ s p v, P s → P (portWrite p v s)
  draw : ∀ s n, P s → P { s with drawCount := n }
  wd : ∀ s v, P s → P (wdCommand v s)

variable {P : State → Prop}

theorem Closed.setPc (h : Closed P) {s : State} (a : Word) (hs : P s) : P (s.setPc a) := by
  exact h.cpu _ _ hs
theorem Closed.setSp (h : Closed P) {s : State} (a : Word) (hs : P s) : P (s.setSp a) := by
  exact h.cpu _ _ hs
theorem Closed.skip (h : Closed P) {s : State} (k : Nat) (hs : P s) : P (s.skip k) := by
  exact h.cpu _ _ hs
theorem Closed.mapCpu (h : Closed P) {s : State} (f : Cpu → Cpu) (hs : P s) : P (s.mapCpu f) := by
  exact h.cpu _ _ hs
theorem Closed.setAF (h : Closed P) {s : State} (a f : Byte) (hs : P s) : P (s.setAF a f) := by
  exact h.cpu _ _ hs
theorem Closed.setF (h : Closed P) {s : State} (f : Byte) (hs : P s) : P (s.setF f) := by
  exact h.cpu _ _ hs
theorem Closed.setA (h : Closed P) {s : State} (a : Byte) (hs : P s) : P (s.setA a) := by
  exact h.cpu _ _ hs
theorem Closed.bumpR (h : Closed P) {s : State} (hs : P s) : P (Machine.bumpR s) := by
  exact h.cpu _ _ hs
theorem Closed.clearEiBlock (h : Closed P) {s : State} (hs : P s) : P (s.clearEiBlock) := by
  exact h.cpu _ _ hs
theorem Closed.contend (h : Closed P) {s : State} (a : Word) (hs : P s) : P (Machine.contend a s) := by
  unfold Machine.contend
  split
  · exact h.time _ _ hs
  · exact hs
theorem Closed.chargeCycle (h : Closed P) {s : State} (a : Word) (n : Nat) (hs : P s) : P (Machine.chargeCycle a n s) := by
  exact h.time _ _ (h.contend a hs)
theorem Closed.internal (h : Closed P) (a : Word) (n : Nat) {s : State} (hs : P s) :
    P (Machine.internal a n s) := by
  induction n generalizing s with
  | zero => exact hs
  | succ n ih => exact ih (h.chargeCycle a 1 hs)
theorem Closed.internalIr (h : Closed P) {s : State} (n : Nat) (hs : P s) : P (Machine.internalIr n s) := by
  exact h.internal _ n hs
theorem Closed.fetch (h : Closed P) {s : State} (a : Word) (hs : P s) : P (Machine.fetch a s) := by
  exact h.bumpR (h.chargeCycle a 4 (h.fetchPg s a hs))
theorem Closed.memRead (h : Closed P) {s : State} (a : Word) (hs : P s) : P ((Machine.memRead a s).2) := by
  exact h.chargeCycle a 3 hs
theorem Closed.skipRead (h : Closed P) {s : State} (a : Word) (hs : P s) : P (Machine.skipRead a s) := by
  exact h.chargeCycle a 3 hs
theorem Closed.memWrite (h : Closed P) {s : State} (a : Word) (v : Byte) (hs : P s) : P (Machine.memWrite a v s) := by
  exact h.store _ a v (h.chargeCycle a 3 hs)
theorem Closed.memReadWord (h : Closed P) {s : State} (a : Word) (hs : P s) : P ((Machine.memReadWord a s).2) := by
  exact h.memRead _ (h.memRead _ hs)
theorem Closed.memWriteWord (h : Closed P) {s : State} (a v : Word) (hs : P s) : P (Machine.memWriteWord a v s) := by
  exact h.memWrite _ _ (h.memWrite _ _ hs)
theorem Closed.ioContended (h : Closed P) {s : State} (k : Nat) (hs : P s) : P (Machine.ioContended k s) := by
  unfold Machine.ioContended
  split
  · exact h.time _ _ (h.time _ _ hs)
  · exact h.time _ _ hs
theorem Closed.chargeIo (h : Closed P) {s : State} (p : Word) (hs : P s) : P (Machine.chargeIo p s) := by
  unfold Machine.chargeIo
  split
  · split
    · exact h.ioContended _ (h.ioContended _ hs)
    · exact h.ioContended _ (h.ioContended _ (h.ioContended _ (h.ioContended _ hs)))
  · split
    · exact h.ioContended _ (h.time _ _ hs)
    · exact h.time _ _ hs
theorem Closed.ioRead (h : Closed P) {s : State} (p : Word) (hs : P s) : P ((Machine.ioRead p s).2) := by
  exact h.time _ _ (h.portIn _ p (h.chargeIo p hs))
theorem Closed.ioWrite (h : Closed P) {s : State} (p : Word) (v : Byte) (hs : P s) : P (Machine.ioWrite p v s) := by
  exact h.time _ _ (h.portOut _ p v (h.chargeIo p hs))
theorem Closed.push (h : Closed P) {s : State} (w : Word) (hs : P s) : P (Machine.push w s) := by
  exact h.setSp _ (h.memWrite _ _ (h.memWrite _ _ hs))
theorem Closed.pop (h : Closed P) {s : State} (hs : P s) : P ((Machine.pop s).2) := by
  exact h.setSp _ (h.memReadWord _ hs)
theorem Closed.drawBool (h : Closed P) {s : State} (hs : P s) : P ((Machine.drawBool s).2) := by
  exact h.draw _ _ hs
theorem Closed.returnFromInterrupt (h : Closed P) {s : State} (hs : P s) : P (Machine.returnFromInterrupt s) := by
  exact h.cpu _ _ (h.pop hs)
theorem Closed.enterHandler (h : Closed P) {s : State} (n : Nat) (a : Word) (hs : P s) : P (Machine.enterHandler n a s) := by
  exact h.setPc _ (h.push _ (h.time _ _ (h.bumpR hs)))
theorem Closed.acceptNmi (h : Closed P) {s : State} (hs : P s) : P (Machine.acceptNmi s) := by
  exact h.enterHandler _ _ (h.cpu _ _ hs)
theorem Closed.acceptInt (h : Closed P) {s : State} (hs : P s) : P (Machine.acceptInt s) := by
  unfold Machine.acceptInt
  dsimp only
  split
  · exact h.enterHandler _ _ (h.cpu _ _ hs)
  · exact h.enterHandler _ _ (h.cpu _ _ hs)
  · exact h.setPc _ (h.memReadWord _ (h.enterHandler _ _ (h.cpu _ _ hs)))
theorem Closed.haltedStep (h : Closed P) {s : State} (hs : P s) : P (Machine.haltedStep s) := by
  exact h.fetch _ (h.clearEiBlock hs)
theorem Closed.fetchOp (h : Closed P) {s : State} (hs : P s) : P (Machine.fetchOp s) := by
  exact h.fetch _ hs
theorem Closed.fetchOp2 (h : Closed P) {s : State} (hs : P s) : P (Machine.fetchOp2 s) := by
  exact h.fetch _ (h.fetch _ hs)
theorem Closed.fetchOpN (h : Closed P) {s : State} (hs : P s) : P (Machine.fetchOpN s) := by
  exact h.skipRead _ (h.fetchOp hs)
theorem Closed.fetchOpNn (h : Closed P) {s : State} (hs : P s) : P (Machine.fetchOpNn s) := by
  exact h.skipRead _ (h.fetchOpN hs)
theorem Closed.fetchOp2N (h : Closed P) {s : State} (hs : P s) : P (Machine.fetchOp2N s) := by
  exact h.skipRead _ (h.fetchOp2 hs)
theorem Closed.fetchOp2Nn (h : Closed P) {s : State} (hs : P s) : P (Machine.fetchOp2Nn s) := by
  exact h.skipRead _ (h.fetchOp2N hs)
theorem Closed.fetchIdx (h : Closed P) {s : State} (hs : P s) : P (Machine.fetchIdx s) := by
  exact h.internal _ _ (h.fetchOp2N hs)
theorem Closed.fetchIdxN (h : Closed P) {s : State} (hs : P s) : P (Machine.fetchIdxN s) := by
  exact h.internal _ _ (h.fetchOp2Nn hs)
theorem Closed.fetchXcb (h : Closed P) {s : State} (hs : P s) : P (Machine.fetchXcb s) := by
  exact h.internal _ _ (h.fetchOp2Nn hs)
theorem Closed.srcMHl (h : Closed P) {s : State} (hs : P s) : P ((Machine.srcMHl s).2) := by
  exact h.memRead _ (h.fetchOp hs)
theorem Closed.srcMIx (h : Closed P) {s : State} (i : Idx) (d : Byte) (hs : P s) : P ((Machine.srcMIx i d s).2) := by
  exact h.memRead _ (h.fetchIdx hs)
theorem Closed.modify (h : Closed P) {s : State} (a : Word) (f : Byte → Byte) (hs : P s) : P ((Machine.modify a f s).2) := by
  exact h.memWrite _ _ (h.internal _ _ (h.memRead _ hs))
theorem Closed.probe (h : Closed P) {s : State} (a : Word) (hs : P s) : P ((Machine.probe a s).2) := by
  exact h.internal _ _ (h.memRead _ hs)
theorem Closed.loadA (h : Closed P) {s : State} (a : Word) (hs : P s) : P (Machine.loadA a s) := by
  exact h.setA _ (h.memRead _ hs)
theorem Closed.loadAIr (h : Closed P) {s : State} (v : Byte) (hs : P s) : P (Machine.loadAIr v s) := by
  unfold Machine.loadAIr
  split
  · exact h.setAF _ _ (h.drawBool hs)
  · exact h.setAF _ _ hs
theorem Closed.exchangeTop (h : Closed P) {s : State} (w : Word) (hs : P s) : P ((Machine.exchangeTop w s).2) := by
  exact h.internal _ _ (h.memWrite _ _ (h.memWrite _ _ (h.internal _ _ (h.memReadWord _ hs))))
theorem Closed.repeatAt (h : Closed P) {s : State} (a : Word) (hs : P s) : P (Machine.repeatAt a s) := by
  exact h.internal _ _ hs
theorem Closed.copyStep (h : Closed P) {s : State} (d : Direction) (hs : P s) : P ((Machine.copyStep d s).2) := by
  unfold Machine.copyStep
  dsimp only
  exact h.mapCpu _ (h.internal _ _ (h.memWrite _ _ (h.memRead _ (h.fetchOp2 hs))))
theorem Closed.copyEnd (h : Closed P) {s : State} (v : Byte) (hs : P s) : P (Machine.copyEnd v s) := by
  exact h.skip _ (h.setF _ hs)
theorem Closed.copyRepeat (h : Closed P) {s : State} (a : Word) (hs : P s) : P (Machine.copyRepeat a s) := by
  exact h.repeatAt _ (h.setF _ (h.drawBool (h.drawBool hs)))
theorem Closed.copyIteration (h : Closed P) {s : State} (d : Direction) (hs : P s) : P (Machine.copyIteration d s) := by
  unfold Machine.copyIteration
  dsimp only
  split
  · exact h.copyRepeat _ (h.copyStep d hs)
  · exact h.copyEnd _ (h.copyStep d hs)
theorem Closed.searchStep (h : Closed P) {s : State} (d : Direction) (hs : P s) : P ((Machine.searchStep d s).2) := by
  unfold Machine.searchStep
  dsimp only
  exact h.mapCpu _ (h.internal _ _ (h.memRead _ (h.fetchOp2 hs)))
theorem Closed.searchEnd (h : Closed P) {s : State} (v : Byte) (hs : P s) : P (Machine.searchEnd v s) := by
  exact h.skip _ (h.setF _ hs)
theorem Closed.searchRepeat (h : Closed P) {s : State} (a : Word) (v : Byte) (hs : P s) : P (Machine.searchRepeat a v s) := by
  exact h.repeatAt _ (h.setF _ (h.drawBool (h.drawBool hs)))
theorem Closed.searchIteration (h : Closed P) {s : State} (d : Direction) (hs : P s) : P (Machine.searchIteration d s) := by
  unfold Machine.searchIteration
  dsimp only
  split
  · exact h.searchRepeat _ _ (h.searchStep d hs)
  · exact h.searchEnd _ (h.searchStep d hs)
theorem Closed.blockIoEnd (h : Closed P) {s : State} (v : Byte) (k : Nat) (hs : P s) : P (Machine.blockIoEnd v k s) := by
  exact h.skip _ (h.setF _ hs)
theorem Closed.blockIoRepeat (h : Closed P) {s : State} (a : Word) (v : Byte) (k : Nat) (hs : P s) : P (Machine.blockIoRepeat a v k s) := by
  exact h.repeatAt _ (h.setF _ (h.drawBool (h.drawBool (h.drawBool (h.drawBool hs)))))
theorem Closed.inStep (h : Closed P) {s : State} (d : Direction) (hs : P s) : P ((Machine.inStep d s).2) := by
  unfold Machine.inStep
  dsimp only
  exact h.mapCpu _ (h.memWrite _ _ (h.ioRead _ (h.internalIr _ (h.fetchOp2 hs))))
theorem Closed.inIteration (h : Closed P) {s : State} (d : Direction) (hs : P s) : P (Machine.inIteration d s) := by
  unfold Machine.inIteration
  dsimp only
  split
  · exact h.blockIoEnd _ _ (h.inStep d hs)
  · exact h.blockIoRepeat _ _ _ (h.inStep d hs)
theorem Closed.outStep (h : Closed P) {s : State} (d : Direction) (hs : P s) : P ((Machine.outStep d s).2) := by
  unfold Machine.outStep
  dsimp only
  exact h.mapCpu _ (h.ioWrite _ _ (h.mapCpu _ (h.memRead _ (h.internalIr _ (h.fetchOp2 hs)))))
theorem Closed.outIteration (h : Closed P) {s : State} (d : Direction) (hs : P s) : P (Machine.outIteration d s) := by
  unfold Machine.outIteration
  dsimp only
  split
  · exact h.blockIoEnd _ _ (h.outStep d hs)
  · exact h.blockIoRepeat _ _ _ (h.outStep d hs)
theorem Closed.applyAlu (h : Closed P) {s : State} (op : Alu) (v : Byte) (hs : P s) : P (Machine.applyAlu op v s) := by
  exact h.setAF _ _ hs
theorem Closed.aluOnReg (h : Closed P) {s : State} (op : Alu) (r : Reg8) (hs : P s) : P (Machine.aluOnReg op r s) := by
  exact h.skip _ (h.applyAlu _ _ (h.fetchOp hs))
theorem Closed.aluOnMHl (h : Closed P) {s : State} (op : Alu) (hs : P s) : P (Machine.aluOnMHl op s) := by
  exact h.skip _ (h.applyAlu _ _ (h.srcMHl hs))
theorem Closed.aluOnImm (h : Closed P) {s : State} (op : Alu) (n : Byte) (hs : P s) : P (Machine.aluOnImm op n s) := by
  exact h.skip _ (h.applyAlu _ _ (h.fetchOpN hs))
theorem Closed.aluOnMIx (h : Closed P) {s : State} (op : Alu) (i : Idx) (d : Byte) (hs : P s) : P (Machine.aluOnMIx op i d s) := by
  exact h.skip _ (h.applyAlu _ _ (h.srcMIx i d hs))
theorem Closed.aluOnHalf (h : Closed P) {s : State} (op : Alu) (i : Idx) (x : Half) (hs : P s) : P (Machine.aluOnHalf op i x s) := by
  exact h.skip _ (h.applyAlu _ _ (h.fetchOp2 hs))
theorem Closed.stepReg (h : Closed P) {s : State} (op : Step8) (r : Reg8) (hs : P s) : P (Machine.stepReg op r s) := by
  exact h.skip _ (h.setF _ (h.mapCpu _ (h.fetchOp hs)))
theorem Closed.stepHalf (h : Closed P) {s : State} (op : Step8) (i : Idx) (x : Half) (hs : P s) : P (Machine.stepHalf op i x s) := by
  exact h.skip _ (h.setF _ (h.mapCpu _ (h.fetchOp2 hs)))
theorem Closed.stepMem (h : Closed P) {s : State} (op : Step8) (a : Word) (hs : P s) : P (Machine.stepMem op a s) := by
  exact h.setF _ (h.modify _ _ hs)
theorem Closed.negate (h : Closed P) {s : State} (hs : P s) : P (Machine.negate s) := by
  exact h.skip _ (h.setAF _ _ (h.fetchOp2 hs))
theorem Closed.drawnFlags (h : Closed P) {s : State} (op : Byte → Bool → Bool → Byte) (hs : P s) : P (Machine.drawnFlags op s) := by
  exact h.skip _ (h.setF _ (h.drawBool (h.drawBool (h.fetchOp hs))))
theorem Closed.wordToHl (h : Closed P) {s : State} (w : Word × Byte) (hs : P s) : P (Machine.wordToHl w s) := by
  exact h.skip _ (h.setF _ (h.mapCpu _ (h.internalIr _ (h.fetchOp2 hs))))
theorem Closed.rotA (h : Closed P) {s : State} (op : Rot) (hs : P s) : P (Machine.rotA op s) := by
  exact h.skip _ (h.setAF _ _ (h.fetchOp hs))
theorem Closed.rotReg (h : Closed P) {s : State} (op : Rot) (r : Reg8) (hs : P s) : P (Machine.rotReg op r s) := by
  exact h.skip _ (h.setF _ (h.mapCpu _ (h.fetchOp2 hs)))
theorem Closed.rotMem (h : Closed P) {s : State} (op : Rot) (a : Word) (hs : P s) : P ((Machine.rotMem op a s).2) := by
  exact h.setF _ (h.modify _ _ hs)
theorem Closed.rotMHl (h : Closed P) {s : State} (op : Rot) (hs : P s) : P (Machine.rotMHl op s) := by
  exact h.skip _ (h.rotMem _ _ (h.fetchOp2 hs))
theorem Closed.rotMIx (h : Closed P) {s : State} (op : Rot) (i : Idx) (d : Byte) (hs : P s) : P (Machine.rotMIx op i d s) := by
  exact h.skip _ (h.rotMem _ _ (h.fetchXcb hs))
theorem Closed.rotMIxCopy (h : Closed P) {s : State} (op : Rot) (i : Idx) (d : Byte) (r : Reg8) (hs : P s) : P (Machine.rotMIxCopy op i d r s) := by
  exact h.skip _ (h.mapCpu _ (h.rotMem _ _ (h.fetchXcb hs)))
theorem Closed.rotDigits (h : Closed P) {s : State} (op : Digits) (hs : P s) : P (Machine.rotDigits op s) := by
  exact h.skip _ (h.setAF _ _ (h.memWrite _ _ (h.internal _ _ (h.memRead _ (h.fetchOp2 hs)))))
theorem Closed.bitMem (h : Closed P) {s : State} (bit : BitVec 3) (v : Byte) (hs : P s) : P (Machine.bitMem bit v s) := by
  exact h.setF _ (h.drawBool (h.drawBool hs))
theorem Closed.bitMIx (h : Closed P) {s : State} (bit : BitVec 3) (i : Idx) (d : Byte) (hs : P s) : P (Machine.bitMIx bit i d s) := by
  exact h.skip _ (h.bitMem _ _ (h.probe _ (h.fetchXcb hs)))
theorem Closed.changeReg (h : Closed P) {s : State} (f : Byte → Byte) (r : Reg8) (hs : P s) : P (Machine.changeReg f r s) := by
  exact h.skip _ (h.mapCpu _ (h.fetchOp2 hs))
theorem Closed.changeMHl (h : Closed P) {s : State} (f : Byte → Byte) (hs : P s) : P (Machine.changeMHl f s) := by
  exact h.skip _ (h.modify _ _ (h.fetchOp2 hs))
theorem Closed.changeMIx (h : Closed P) {s : State} (f : Byte → Byte) (i : Idx) (d : Byte) (hs : P s) : P (Machine.changeMIx f i d s) := by
  exact h.skip _ (h.modify _ _ (h.fetchXcb hs))
theorem Closed.changeMIxCopy (h : Closed P) {s : State} (f : Byte → Byte) (i : Idx) (d : Byte) (r : Reg8) (hs : P s) : P (Machine.changeMIxCopy f i d r s) := by
  exact h.skip _ (h.mapCpu _ (h.modify _ _ (h.fetchXcb hs)))
theorem Closed.takeRel (h : Closed P) {s : State} (pc : Word) (e : Byte) (hs : P s) : P (Machine.takeRel pc e s) := by
  exact h.setPc _ (h.internal _ _ hs)
theorem Closed.call (h : Closed P) {s : State} (r a : Word) (hs : P s) : P (Machine.call r a s) := by
  exact h.setPc _ (h.push _ hs)
theorem Closed.callTaken (h : Closed P) {s : State} (a : Word) (hs : P s) : P (Machine.callTaken a s) := by
  exact h.call _ _ (h.internal _ _ (h.fetchOpNn hs))
theorem Closed.returnTo (h : Closed P) {s : State} (hs : P s) : P (Machine.returnTo s) := by
  exact h.setPc _ (h.pop hs)
theorem Closed.setIm (h : Closed P) {s : State} (m : IntMode) (hs : P s) : P (Machine.setIm m s) := by
  exact h.skip _ (h.mapCpu _ (h.fetchOp2 hs))
theorem Closed.inputBc (h : Closed P) {s : State} (hs : P s) : P ((Machine.inputBc s).2) := by
  exact h.setF _ (h.ioRead _ (h.fetchOp2 hs))

/-- An outcome whose next state, if it is one, meets `P`. -/
def NextIs (P : State → Prop) (o : Result) : Prop := ∀ t, o = .next t → P t

theorem nextIs_next {t : State} (h : P t) : NextIs P (.next t) := by
  intro u hu
  cases hu
  exact h

theorem nextIs_undocumented {s t : State} (h : P t) : NextIs P (undocumented s t) := by
  intro u hu
  unfold undocumented at hu
  split at hu
  · cases hu
  · cases hu
    exact h

/-! One lemma per instruction. -/

theorem Closed.execNop (h : Closed P) {s : State} (hs : P s) :
    NextIs P (Machine.execNop s) := by
  exact nextIs_next (h.skip _ (h.fetchOp (hs)))
theorem Closed.execLdRrNn (h : Closed P) {s : State} (hs : P s) (rr : RegPair) (nn : Word) :
    NextIs P (Machine.execLdRrNn rr nn s) := by
  exact nextIs_next (h.skip _ (h.mapCpu _ (h.fetchOpNn (hs))))
theorem Closed.execAddHlRr (h : Closed P) {s : State} (hs : P s) (rr : RegPair) :
    NextIs P (Machine.execAddHlRr rr s) := by
  exact nextIs_next (h.skip _ (h.setF _ (h.mapCpu _ (h.internalIr _ (h.fetchOp (hs))))))
theorem Closed.execLdMBcA (h : Closed P) {s : State} (hs : P s) :
    NextIs P (Machine.execLdMBcA s) := by
  exact nextIs_next (h.skip _ (h.memWrite _ _ (h.fetchOp (hs))))
theorem Closed.execLdMDeA (h : Closed P) {s : State} (hs : P s) :
    NextIs P (Machine.execLdMDeA s) := by
  exact nextIs_next (h.skip _ (h.memWrite _ _ (h.fetchOp (hs))))
theorem Closed.execLdMNnHl (h : Closed P) {s : State} (hs : P s) (nn : Word) :
    NextIs P (Machine.execLdMNnHl nn s) := by
  exact nextIs_next (h.skip _ (h.memWriteWord _ _ (h.fetchOpNn (hs))))
theorem Closed.execLdMNnA (h : Closed P) {s : State} (hs : P s) (nn : Word) :
    NextIs P (Machine.execLdMNnA nn s) := by
  exact nextIs_next (h.skip _ (h.memWrite _ _ (h.fetchOpNn (hs))))
theorem Closed.execLdAMBc (h : Closed P) {s : State} (hs : P s) :
    NextIs P (Machine.execLdAMBc s) := by
  exact nextIs_next (h.skip _ (h.loadA _ (h.fetchOp (hs))))
theorem Closed.execLdAMDe (h : Closed P) {s : State} (hs : P s) :
    NextIs P (Machine.execLdAMDe s) := by
  exact nextIs_next (h.skip _ (h.loadA _ (h.fetchOp (hs))))
theorem Closed.execLdHlMNn (h : Closed P) {s : State} (hs : P s) (nn : Word) :
    NextIs P (Machine.execLdHlMNn nn s) := by
  exact nextIs_next (h.skip _ (h.mapCpu _ (h.memReadWord _ (h.fetchOpNn (hs)))))
theorem Closed.execLdAMNn (h : Closed P) {s : State} (hs : P s) (nn : Word) :
    NextIs P (Machine.execLdAMNn nn s) := by
  exact nextIs_next (h.skip _ (h.loadA _ (h.fetchOpNn (hs))))
theorem Closed.execIncRr (h : Closed P) {s : State} (hs : P s) (rr : RegPair) :
    NextIs P (Machine.execIncRr rr s) := by
  exact nextIs_next (h.skip _ (h.mapCpu _ (h.internalIr _ (h.fetchOp (hs)))))
theorem Closed.execDecRr (h : Closed P) {s : State} (hs : P s) (rr : RegPair) :
    NextIs P (Machine.execDecRr rr s) := by
  exact nextIs_next (h.skip _ (h.mapCpu _ (h.internalIr _ (h.fetchOp (hs)))))
theorem Closed.execIncR (h : Closed P) {s : State} (hs : P s) (r : Reg8) :
    NextIs P (Machine.execIncR r s) := by
  exact nextIs_next (h.stepReg _ _ (hs))
theorem Closed.execIncMHl (h : Closed P) {s : State} (hs : P s) :
    NextIs P (Machine.execIncMHl s) := by
  exact nextIs_next (h.skip _ (h.stepMem _ _ (h.fetchOp (hs))))
theorem Closed.execDecR (h : Closed P) {s : State} (hs : P s) (r : Reg8) :
    NextIs P (Machine.execDecR r s) := by
  exact nextIs_next (h.stepReg _ _ (hs))
theorem Closed.execDecMHl (h : Closed P) {s : State} (hs : P s) :
    NextIs P (Machine.execDecMHl s) := by
  exact nextIs_next (h.skip _ (h.stepMem _ _ (h.fetchOp (hs))))
theorem Closed.execLdRN (h : Closed P) {s : State} (hs : P s) (r : Reg8) (n : Byte) :
    NextIs P (Machine.execLdRN r n s) := by
  exact nextIs_next (h.skip _ (h.mapCpu _ (h.fetchOpN (hs))))
theorem Closed.execLdMHlN (h : Closed P) {s : State} (hs : P s) (n : Byte) :
    NextIs P (Machine.execLdMHlN n s) := by
  exact nextIs_next (h.skip _ (h.memWrite _ _ (h.fetchOpN (hs))))
theorem Closed.execRlca (h : Closed P) {s : State} (hs : P s) :
    NextIs P (Machine.execRlca s) := by
  exact nextIs_next (h.rotA _ (hs))
theorem Closed.execRrca (h : Closed P) {s : State} (hs : P s) :
    NextIs P (Machine.execRrca s) := by
  exact nextIs_next (h.rotA _ (hs))
theorem Closed.execRla (h : Closed P) {s : State} (hs : P s) :
    NextIs P (Machine.execRla s) := by
  exact nextIs_next (h.rotA _ (hs))
theorem Closed.execRra (h : Closed P) {s : State} (hs : P s) :
    NextIs P (Machine.execRra s) := by
  exact nextIs_next (h.rotA _ (hs))
theorem Closed.execDaa (h : Closed P) {s : State} (hs : P s) :
    NextIs P (Machine.execDaa s) := by
  exact nextIs_next (h.skip _ (h.setAF _ _ (h.fetchOp (hs))))
theorem Closed.execCpl (h : Closed P) {s : State} (hs : P s) :
    NextIs P (Machine.execCpl s) := by
  exact nextIs_next (h.skip _ (h.setAF _ _ (h.fetchOp (hs))))
theorem Closed.execScf (h : Closed P) {s : State} (hs : P s) :
    NextIs P (Machine.execScf s) := by
  exact nextIs_next (h.drawnFlags _ (hs))
theorem Closed.execCcf (h : Closed P) {s : State} (hs : P s) :
    NextIs P (Machine.execCcf s) := by
  exact nextIs_next (h.drawnFlags _ (hs))
theorem Closed.execExAfAf (h : Closed P) {s : State} (hs : P s) :
    NextIs P (Machine.execExAfAf s) := by
  exact nextIs_next (h.skip _ (h.mapCpu _ (h.fetchOp (hs))))
theorem Closed.execDjnz (h : Closed P) {s : State} (hs : P s) (e : Byte) :
    NextIs P (Machine.execDjnz e s) := by
  refine nextIs_next ?_
  split
  · exact h.skip _ (h.mapCpu _ (h.skipRead _ (h.internalIr _ (h.fetchOp (hs)))))
  · exact h.takeRel _ _ (h.mapCpu _ (h.skipRead _ (h.internalIr _ (h.fetchOp (hs)))))
theorem Closed.execJr (h : Closed P) {s : State} (hs : P s) (e : Byte) :
    NextIs P (Machine.execJr e s) := by
  exact nextIs_next (h.takeRel _ _ (h.fetchOpN (hs)))
theorem Closed.execJrC (h : Closed P) {s : State} (hs : P s) (cc : JrCond) (e : Byte) :
    NextIs P (Machine.execJrC cc e s) := by
  refine nextIs_next ?_
  split
  · exact h.takeRel _ _ (h.fetchOpN (hs))
  · exact h.skip _ (h.fetchOpN (hs))
theorem Closed.execLdRS (h : Closed P) {s : State} (hs : P s) (r : Reg8) (r2 : Reg8) :
    NextIs P (Machine.execLdRS r r2 s) := by
  exact nextIs_next (h.skip _ (h.mapCpu _ (h.fetchOp (hs))))
theorem Closed.execLdRMHl (h : Closed P) {s : State} (hs : P s) (r : Reg8) :
    NextIs P (Machine.execLdRMHl r s) := by
  exact nextIs_next (h.skip _ (h.mapCpu _ (h.srcMHl (hs))))
theorem Closed.execLdMHlS (h : Closed P) {s : State} (hs : P s) (r : Reg8) :
    NextIs P (Machine.execLdMHlS r s) := by
  exact nextIs_next (h.skip _ (h.memWrite _ _ (h.fetchOp (hs))))
theorem Closed.execHalt (h : Closed P) {s : State} (hs : P s) :
    NextIs P (Machine.execHalt s) := by
  exact nextIs_next (h.skip _ (h.mapCpu _ (h.fetchOp (hs))))
theorem Closed.execAddAR (h : Closed P) {s : State} (hs : P s) (r : Reg8) :
    NextIs P (Machine.execAddAR r s) := by
  exact nextIs_next (h.aluOnReg _ _ (hs))
theorem Closed.execAddAMHl (h : Closed P) {s : State} (hs : P s) :
    NextIs P (Machine.execAddAMHl s) := by
  exact nextIs_next (h.aluOnMHl _ (hs))
theorem Closed.execAddAN (h : Closed P) {s : State} (hs : P s) (n : Byte) :
    NextIs P (Machine.execAddAN n s) := by
  exact nextIs_next (h.aluOnImm _ _ (hs))
theorem Closed.execAdcAR (h : Closed P) {s : State} (hs : P s) (r : Reg8) :
    NextIs P (Machine.execAdcAR r s) := by
  exact nextIs_next (h.aluOnReg _ _ (hs))
theorem Closed.execAdcAMHl (h : Closed P) {s : State} (hs : P s) :
    NextIs P (Machine.execAdcAMHl s) := by
  exact nextIs_next (h.aluOnMHl _ (hs))
theorem Closed.execAdcAN (h : Closed P) {s : State} (hs : P s) (n : Byte) :
    NextIs P (Machine.execAdcAN n s) := by
  exact nextIs_next (h.aluOnImm _ _ (hs))
theorem Closed.execSubAR (h : Closed P) {s : State} (hs : P s) (r : Reg8) :
    NextIs P (Machine.execSubAR r s) := by
  exact nextIs_next (h.aluOnReg _ _ (hs))
theorem Closed.execSubAMHl (h : Closed P) {s : State} (hs : P s) :
    NextIs P (Machine.execSubAMHl s) := by
  exact nextIs_next (h.aluOnMHl _ (hs))
theorem Closed.execSubAN (h : Closed P) {s : State} (hs : P s) (n : Byte) :
    NextIs P (Machine.execSubAN n s) := by
  exact nextIs_next (h.aluOnImm _ _ (hs))
theorem Closed.execSbcAR (h : Closed P) {s : State} (hs : P s) (r : Reg8) :
    NextIs P (Machine.execSbcAR r s) := by
  exact nextIs_next (h.aluOnReg _ _ (hs))
theorem Closed.execSbcAMHl (h : Closed P) {s : State} (hs : P s) :
    NextIs P (Machine.execSbcAMHl s) := by
  exact nextIs_next (h.aluOnMHl _ (hs))
theorem Closed.execSbcAN (h : Closed P) {s : State} (hs : P s) (n : Byte) :
    NextIs P (Machine.execSbcAN n s) := by
  exact nextIs_next (h.aluOnImm _ _ (hs))
theorem Closed.execAndAR (h : Closed P) {s : State} (hs : P s) (r : Reg8) :
    NextIs P (Machine.execAndAR r s) := by
  exact nextIs_next (h.aluOnReg _ _ (hs))
theorem Closed.execAndAMHl (h : Closed P) {s : State} (hs : P s) :
    NextIs P (Machine.execAndAMHl s) := by
  exact nextIs_next (h.aluOnMHl _ (hs))
theorem Closed.execAndAN (h : Closed P) {s : State} (hs : P s) (n : Byte) :
    NextIs P (Machine.execAndAN n s) := by
  exact nextIs_next (h.aluOnImm _ _ (hs))
theorem Closed.execXorAR (h : Closed P) {s : State} (hs : P s) (r : Reg8) :
    NextIs P (Machine.execXorAR r s) := by
  exact nextIs_next (h.aluOnReg _ _ (hs))
theorem Closed.execXorAMHl (h : Closed P) {s : State} (hs : P s) :
    NextIs P (Machine.execXorAMHl s) := by
  exact nextIs_next (h.aluOnMHl _ (hs))
theorem Closed.execXorAN (h : Closed P) {s : State} (hs : P s) (n : Byte) :
    NextIs P (Machine.execXorAN n s) := by
  exact nextIs_next (h.aluOnImm _ _ (hs))
theorem Closed.execOrAR (h : Closed P) {s : State} (hs : P s) (r : Reg8) :
    NextIs P (Machine.execOrAR r s) := by
  exact nextIs_next (h.aluOnReg _ _ (hs))
theorem Closed.execOrAMHl (h : Closed P) {s : State} (hs : P s) :
    NextIs P (Machine.execOrAMHl s) := by
  exact nextIs_next (h.aluOnMHl _ (hs))
theorem Closed.execOrAN (h : Closed P) {s : State} (hs : P s) (n : Byte) :
    NextIs P (Machine.execOrAN n s) := by
  exact nextIs_next (h.aluOnImm _ _ (hs))
theorem Closed.execCpAR (h : Closed P) {s : State} (hs : P s) (r : Reg8) :
    NextIs P (Machine.execCpAR r s) := by
  exact nextIs_next (h.aluOnReg _ _ (hs))
theorem Closed.execCpAMHl (h : Closed P) {s : State} (hs : P s) :
    NextIs P (Machine.execCpAMHl s) := by
  exact nextIs_next (h.aluOnMHl _ (hs))
theorem Closed.execCpAN (h : Closed P) {s : State} (hs : P s) (n : Byte) :
    NextIs P (Machine.execCpAN n s) := by
  exact nextIs_next (h.aluOnImm _ _ (hs))
theorem Closed.execRetC (h : Closed P) {s : State} (hs : P s) (cc : Cond) :
    NextIs P (Machine.execRetC cc s) := by
  refine nextIs_next ?_
  split
  · exact h.returnTo (h.internalIr _ (h.fetchOp (hs)))
  · exact h.skip _ (h.internalIr _ (h.fetchOp (hs)))
theorem Closed.execPopQq (h : Closed P) {s : State} (hs : P s) (qq : StackPair) :
    NextIs P (Machine.execPopQq qq s) := by
  exact nextIs_next (h.skip _ (h.mapCpu _ (h.pop (h.fetchOp (hs)))))
theorem Closed.execRet (h : Closed P) {s : State} (hs : P s) :
    NextIs P (Machine.execRet s) := by
  exact nextIs_next (h.returnTo (h.fetchOp (hs)))
theorem Closed.execExx (h : Closed P) {s : State} (hs : P s) :
    NextIs P (Machine.execExx s) := by
  exact nextIs_next (h.skip _ (h.mapCpu _ (h.fetchOp (hs))))
theorem Closed.execJpHl (h : Closed P) {s : State} (hs : P s) :
    NextIs P (Machine.execJpHl s) := by
  exact nextIs_next (h.setPc _ (h.fetchOp (hs)))
theorem Closed.execLdSpHl (h : Closed P) {s : State} (hs : P s) :
    NextIs P (Machine.execLdSpHl s) := by
  exact nextIs_next (h.skip _ (h.setSp _ (h.internalIr _ (h.fetchOp (hs)))))
theorem Closed.execJpCNn (h : Closed P) {s : State} (hs : P s) (cc : Cond) (nn : Word) :
    NextIs P (Machine.execJpCNn cc nn s) := by
  refine nextIs_next ?_
  split
  · exact h.setPc _ (h.fetchOpNn (hs))
  · exact h.skip _ (h.fetchOpNn (hs))
theorem Closed.execJpNn (h : Closed P) {s : State} (hs : P s) (nn : Word) :
    NextIs P (Machine.execJpNn nn s) := by
  exact nextIs_next (h.setPc _ (h.fetchOpNn (hs)))
theorem Closed.execOutNA (h : Closed P) {s : State} (hs : P s) (n : Byte) :
    NextIs P (Machine.execOutNA n s) := by
  exact nextIs_next (h.skip _ (h.ioWrite _ _ (h.fetchOpN (hs))))
theorem Closed.execInAN (h : Closed P) {s : State} (hs : P s) (n : Byte) :
    NextIs P (Machine.execInAN n s) := by
  exact nextIs_next (h.skip _ (h.setA _ (h.ioRead _ (h.fetchOpN (hs)))))
theorem Closed.execExMSpHl (h : Closed P) {s : State} (hs : P s) :
    NextIs P (Machine.execExMSpHl s) := by
  exact nextIs_next (h.skip _ (h.mapCpu _ (h.exchangeTop _ (h.fetchOp (hs)))))
theorem Closed.execExDeHl (h : Closed P) {s : State} (hs : P s) :
    NextIs P (Machine.execExDeHl s) := by
  exact nextIs_next (h.skip _ (h.mapCpu _ (h.fetchOp (hs))))
theorem Closed.execDi (h : Closed P) {s : State} (hs : P s) :
    NextIs P (Machine.execDi s) := by
  exact nextIs_next (h.skip _ (h.mapCpu _ (h.fetchOp (hs))))
theorem Closed.execEi (h : Closed P) {s : State} (hs : P s) :
    NextIs P (Machine.execEi s) := by
  exact nextIs_next (h.skip _ (h.mapCpu _ (h.fetchOp (hs))))
theorem Closed.execCallCNn (h : Closed P) {s : State} (hs : P s) (cc : Cond) (nn : Word) :
    NextIs P (Machine.execCallCNn cc nn s) := by
  refine nextIs_next ?_
  split
  · exact h.callTaken _ (hs)
  · exact h.skip _ (h.fetchOpNn (hs))
theorem Closed.execPushQq (h : Closed P) {s : State} (hs : P s) (qq : StackPair) :
    NextIs P (Machine.execPushQq qq s) := by
  exact nextIs_next (h.skip _ (h.push _ (h.internalIr _ (h.fetchOp (hs)))))
theorem Closed.execCallNn (h : Closed P) {s : State} (hs : P s) (nn : Word) :
    NextIs P (Machine.execCallNn nn s) := by
  exact nextIs_next (h.callTaken _ (hs))
theorem Closed.execRst (h : Closed P) {s : State} (hs : P s) (t : BitVec 3) :
    NextIs P (Machine.execRst t s) := by
  exact nextIs_next (h.call _ _ (h.internalIr _ (h.fetchOp (hs))))
theorem Closed.execRlcR (h : Closed P) {s : State} (hs : P s) (r : Reg8) :
    NextIs P (Machine.execRlcR r s) := by
  exact nextIs_next (h.rotReg _ _ (hs))
theorem Closed.execRlcMHl (h : Closed P) {s : State} (hs : P s) :
    NextIs P (Machine.execRlcMHl s) := by
  exact nextIs_next (h.rotMHl _ (hs))
theorem Closed.execRrcR (h : Closed P) {s : State} (hs : P s) (r : Reg8) :
    NextIs P (Machine.execRrcR r s) := by
  exact nextIs_next (h.rotReg _ _ (hs))
theorem Closed.execRrcMHl (h : Closed P) {s : State} (hs : P s) :
    NextIs P (Machine.execRrcMHl s) := by
  exact nextIs_next (h.rotMHl _ (hs))
theorem Closed.execRlR (h : Closed P) {s : State} (hs : P s) (r : Reg8) :
    NextIs P (Machine.execRlR r s) := by
  exact nextIs_next (h.rotReg _ _ (hs))
theorem Closed.execRlMHl (h : Closed P) {s : State} (hs : P s) :
    NextIs P (Machine.execRlMHl s) := by
  exact nextIs_next (h.rotMHl _ (hs))
theorem Closed.execRrR (h : Closed P) {s : State} (hs : P s) (r : Reg8) :
    NextIs P (Machine.execRrR r s) := by
  exact nextIs_next (h.rotReg _ _ (hs))
theorem Closed.execRrMHl (h : Closed P) {s : State} (hs : P s) :
    NextIs P (Machine.execRrMHl s) := by
  exact nextIs_next (h.rotMHl _ (hs))
theorem Closed.execSlaR (h : Closed P) {s : State} (hs : P s) (r : Reg8) :
    NextIs P (Machine.execSlaR r s) := by
  exact nextIs_next (h.rotReg _ _ (hs))
theorem Closed.execSlaMHl (h : Closed P) {s : State} (hs : P s) :
    NextIs P (Machine.execSlaMHl s) := by
  exact nextIs_next (h.rotMHl _ (hs))
theorem Closed.execSraR (h : Closed P) {s : State} (hs : P s) (r : Reg8) :
    NextIs P (Machine.execSraR r s) := by
  exact nextIs_next (h.rotReg _ _ (hs))
theorem Closed.execSraMHl (h : Closed P) {s : State} (hs : P s) :
    NextIs P (Machine.execSraMHl s) := by
  exact nextIs_next (h.rotMHl _ (hs))
theorem Closed.execSllR (h : Closed P) {s : State} (hs : P s) (r : Reg8) :
    NextIs P (Machine.execSllR r s) := by
  exact nextIs_undocumented (h.rotReg _ _ (hs))
theorem Closed.execSllMHl (h : Closed P) {s : State} (hs : P s) :
    NextIs P (Machine.execSllMHl s) := by
  exact nextIs_undocumented (h.rotMHl _ (hs))
theorem Closed.execSrlR (h : Closed P) {s : State} (hs : P s) (r : Reg8) :
    NextIs P (Machine.execSrlR r s) := by
  exact nextIs_next (h.rotReg _ _ (hs))
theorem Closed.execSrlMHl (h : Closed P) {s : State} (hs : P s) :
    NextIs P (Machine.execSrlMHl s) := by
  exact nextIs_next (h.rotMHl _ (hs))
theorem Closed.execBitBR (h : Closed P) {s : State} (hs : P s) (bit : BitVec 3) (r : Reg8) :
    NextIs P (Machine.execBitBR bit r s) := by
  exact nextIs_next (h.skip _ (h.setF _ (h.fetchOp2 (hs))))
theorem Closed.execBitBMHl (h : Closed P) {s : State} (hs : P s) (bit : BitVec 3) :
    NextIs P (Machine.execBitBMHl bit s) := by
  exact nextIs_next (h.skip _ (h.bitMem _ _ (h.probe _ (h.fetchOp2 (hs)))))
theorem Closed.execResBR (h : Closed P) {s : State} (hs : P s) (bit : BitVec 3) (r : Reg8) :
    NextIs P (Machine.execResBR bit r s) := by
  exact nextIs_next (h.changeReg _ _ (hs))
theorem Closed.execResBMHl (h : Closed P) {s : State} (hs : P s) (bit : BitVec 3) :
    NextIs P (Machine.execResBMHl bit s) := by
  exact nextIs_next (h.changeMHl _ (hs))
theorem Closed.execSetBR (h : Closed P) {s : State} (hs : P s) (bit : BitVec 3) (r : Reg8) :
    NextIs P (Machine.execSetBR bit r s) := by
  exact nextIs_next (h.changeReg _ _ (hs))
theorem Closed.execSetBMHl (h : Closed P) {s : State} (hs : P s) (bit : BitVec 3) :
    NextIs P (Machine.execSetBMHl bit s) := by
  exact nextIs_next (h.changeMHl _ (hs))
theorem Closed.execInRC (h : Closed P) {s : State} (hs : P s) (r : Reg8) :
    NextIs P (Machine.execInRC r s) := by
  exact nextIs_next (h.skip _ (h.mapCpu _ (h.inputBc (hs))))
theorem Closed.execInFC (h : Closed P) {s : State} (hs : P s) :
    NextIs P (Machine.execInFC s) := by
  exact nextIs_undocumented (h.skip _ (h.inputBc (hs)))
theorem Closed.execOutCR (h : Closed P) {s : State} (hs : P s) (r : Reg8) :
    NextIs P (Machine.execOutCR r s) := by
  exact nextIs_next (h.skip _ (h.ioWrite _ _ (h.fetchOp2 (hs))))
theorem Closed.execOutC0 (h : Closed P) {s : State} (hs : P s) :
    NextIs P (Machine.execOutC0 s) := by
  exact nextIs_undocumented (h.skip _ (h.ioWrite _ _ (h.fetchOp2 (hs))))
theorem Closed.execSbcHlRr (h : Closed P) {s : State} (hs : P s) (rr : RegPair) :
    NextIs P (Machine.execSbcHlRr rr s) := by
  exact nextIs_next (h.wordToHl _ (hs))
theorem Closed.execAdcHlRr (h : Closed P) {s : State} (hs : P s) (rr : RegPair) :
    NextIs P (Machine.execAdcHlRr rr s) := by
  exact nextIs_next (h.wordToHl _ (hs))
theorem Closed.execLdMNnRr (h : Closed P) {s : State} (hs : P s) (rr : RegPair) (nn : Word) :
    NextIs P (Machine.execLdMNnRr rr nn s) := by
  exact nextIs_next (h.skip _ (h.memWriteWord _ _ (h.fetchOp2Nn (hs))))
theorem Closed.execLdRrMNn (h : Closed P) {s : State} (hs : P s) (rr : RegPair) (nn : Word) :
    NextIs P (Machine.execLdRrMNn rr nn s) := by
  exact nextIs_next (h.skip _ (h.mapCpu _ (h.memReadWord _ (h.fetchOp2Nn (hs)))))
theorem Closed.execNeg (h : Closed P) {s : State} (hs : P s) :
    NextIs P (Machine.execNeg s) := by
  exact nextIs_next (h.negate (hs))
theorem Closed.execNegDup (h : Closed P) {s : State} (hs : P s) (y : BitVec 3) :
    NextIs P (Machine.execNegDup y s) := by
  exact nextIs_undocumented (h.negate (hs))
theorem Closed.execRetn (h : Closed P) {s : State} (hs : P s) :
    NextIs P (Machine.execRetn s) := by
  exact nextIs_next (h.returnFromInterrupt (h.fetchOp2 (hs)))
theorem Closed.execReti (h : Closed P) {s : State} (hs : P s) :
    NextIs P (Machine.execReti s) := by
  exact nextIs_next (h.returnFromInterrupt (h.fetchOp2 (hs)))
theorem Closed.execRetnDup (h : Closed P) {s : State} (hs : P s) (y : BitVec 3) :
    NextIs P (Machine.execRetnDup y s) := by
  exact nextIs_undocumented (h.returnFromInterrupt (h.fetchOp2 (hs)))
theorem Closed.execIm0 (h : Closed P) {s : State} (hs : P s) :
    NextIs P (Machine.execIm0 s) := by
  exact nextIs_next (h.setIm _ (hs))
theorem Closed.execIm1 (h : Closed P) {s : State} (hs : P s) :
    NextIs P (Machine.execIm1 s) := by
  exact nextIs_next (h.setIm _ (hs))
theorem Closed.execIm2 (h : Closed P) {s : State} (hs : P s) :
    NextIs P (Machine.execIm2 s) := by
  exact nextIs_next (h.setIm _ (hs))
theorem Closed.execImDup (h : Closed P) {s : State} (hs : P s) (y : BitVec 3) :
    NextIs P (Machine.execImDup y s) := by
  exact nextIs_undocumented (h.setIm _ (hs))
theorem Closed.execLdIA (h : Closed P) {s : State} (hs : P s) :
    NextIs P (Machine.execLdIA s) := by
  exact nextIs_next (h.skip _ (h.mapCpu _ (h.internalIr _ (h.fetchOp2 (hs)))))
theorem Closed.execLdRA (h : Closed P) {s : State} (hs : P s) :
    NextIs P (Machine.execLdRA s) := by
  exact nextIs_next (h.skip _ (h.mapCpu _ (h.internalIr _ (h.fetchOp2 (hs)))))
theorem Closed.execLdAI (h : Closed P) {s : State} (hs : P s) :
    NextIs P (Machine.execLdAI s) := by
  exact nextIs_next (h.skip _ (h.loadAIr _ (h.internalIr _ (h.fetchOp2 (hs)))))
theorem Closed.execLdAR (h : Closed P) {s : State} (hs : P s) :
    NextIs P (Machine.execLdAR s) := by
  exact nextIs_next (h.skip _ (h.loadAIr _ (h.internalIr _ (h.fetchOp2 (hs)))))
theorem Closed.execRrd (h : Closed P) {s : State} (hs : P s) :
    NextIs P (Machine.execRrd s) := by
  exact nextIs_next (h.rotDigits _ (hs))
theorem Closed.execRld (h : Closed P) {s : State} (hs : P s) :
    NextIs P (Machine.execRld s) := by
  exact nextIs_next (h.rotDigits _ (hs))
theorem Closed.execNopEd7 (h : Closed P) {s : State} (hs : P s) (y : Bool) :
    NextIs P (Machine.execNopEd7 y s) := by
  exact nextIs_undocumented (h.skip _ (h.fetchOp2 (hs)))
theorem Closed.execLdi (h : Closed P) {s : State} (hs : P s) :
    NextIs P (Machine.execLdi s) := by
  exact nextIs_next (h.copyEnd _ (h.copyStep _ (hs)))
theorem Closed.execLdd (h : Closed P) {s : State} (hs : P s) :
    NextIs P (Machine.execLdd s) := by
  exact nextIs_next (h.copyEnd _ (h.copyStep _ (hs)))
theorem Closed.execLdir (h : Closed P) {s : State} (hs : P s) :
    NextIs P (Machine.execLdir s) := by
  exact nextIs_next (h.copyIteration _ (hs))
theorem Closed.execLddr (h : Closed P) {s : State} (hs : P s) :
    NextIs P (Machine.execLddr s) := by
  exact nextIs_next (h.copyIteration _ (hs))
theorem Closed.execCpi (h : Closed P) {s : State} (hs : P s) :
    NextIs P (Machine.execCpi s) := by
  exact nextIs_next (h.searchEnd _ (h.searchStep _ (hs)))
theorem Closed.execCpd (h : Closed P) {s : State} (hs : P s) :
    NextIs P (Machine.execCpd s) := by
  exact nextIs_next (h.searchEnd _ (h.searchStep _ (hs)))
theorem Closed.execCpir (h : Closed P) {s : State} (hs : P s) :
    NextIs P (Machine.execCpir s) := by
  exact nextIs_next (h.searchIteration _ (hs))
theorem Closed.execCpdr (h : Closed P) {s : State} (hs : P s) :
    NextIs P (Machine.execCpdr s) := by
  exact nextIs_next (h.searchIteration _ (hs))
theorem Closed.execIni (h : Closed P) {s : State} (hs : P s) :
    NextIs P (Machine.execIni s) := by
  exact nextIs_next (h.blockIoEnd _ _ (h.inStep _ (hs)))
theorem Closed.execInd (h : Closed P) {s : State} (hs : P s) :
    NextIs P (Machine.execInd s) := by
  exact nextIs_next (h.blockIoEnd _ _ (h.inStep _ (hs)))
theorem Closed.execInir (h : Closed P) {s : State} (hs : P s) :
    NextIs P (Machine.execInir s) := by
  exact nextIs_next (h.inIteration _ (hs))
theorem Closed.execIndr (h : Closed P) {s : State} (hs : P s) :
    NextIs P (Machine.execIndr s) := by
  exact nextIs_next (h.inIteration _ (hs))
theorem Closed.execOuti (h : Closed P) {s : State} (hs : P s) :
    NextIs P (Machine.execOuti s) := by
  exact nextIs_next (h.blockIoEnd _ _ (h.outStep _ (hs)))
theorem Closed.execOutd (h : Closed P) {s : State} (hs : P s) :
    NextIs P (Machine.execOutd s) := by
  exact nextIs_next (h.blockIoEnd _ _ (h.outStep _ (hs)))
theorem Closed.execOtir (h : Closed P) {s : State} (hs : P s) :
    NextIs P (Machine.execOtir s) := by
  exact nextIs_next (h.outIteration _ (hs))
theorem Closed.execOtdr (h : Closed P) {s : State} (hs : P s) :
    NextIs P (Machine.execOtdr s) := by
  exact nextIs_next (h.outIteration _ (hs))
theorem Closed.execNoni (h : Closed P) {s : State} (hs : P s) (op : Byte) :
    NextIs P (Machine.execNoni op s) := by
  exact nextIs_undocumented (h.skip _ (h.fetchOp2 (hs)))
theorem Closed.execLdIiNn (h : Closed P) {s : State} (hs : P s) (i : Idx) (nn : Word) :
    NextIs P (Machine.execLdIiNn i nn s) := by
  exact nextIs_next (h.skip _ (h.mapCpu _ (h.fetchOp2Nn (hs))))
theorem Closed.execAddIiRr (h : Closed P) {s : State} (hs : P s) (i : Idx) (pp : IdxPair) :
    NextIs P (Machine.execAddIiRr i pp s) := by
  exact nextIs_next (h.skip _ (h.setF _ (h.mapCpu _ (h.internalIr _ (h.fetchOp2 (hs))))))
theorem Closed.execLdMNnIi (h : Closed P) {s : State} (hs : P s) (i : Idx) (nn : Word) :
    NextIs P (Machine.execLdMNnIi i nn s) := by
  exact nextIs_next (h.skip _ (h.memWriteWord _ _ (h.fetchOp2Nn (hs))))
theorem Closed.execLdIiMNn (h : Closed P) {s : State} (hs : P s) (i : Idx) (nn : Word) :
    NextIs P (Machine.execLdIiMNn i nn s) := by
  exact nextIs_next (h.skip _ (h.mapCpu _ (h.memReadWord _ (h.fetchOp2Nn (hs)))))
theorem Closed.execIncIi (h : Closed P) {s : State} (hs : P s) (i : Idx) :
    NextIs P (Machine.execIncIi i s) := by
  exact nextIs_next (h.skip _ (h.mapCpu _ (h.internalIr _ (h.fetchOp2 (hs)))))
theorem Closed.execDecIi (h : Closed P) {s : State} (hs : P s) (i : Idx) :
    NextIs P (Machine.execDecIi i s) := by
  exact nextIs_next (h.skip _ (h.mapCpu _ (h.internalIr _ (h.fetchOp2 (hs)))))
theorem Closed.execIncIhl (h : Closed P) {s : State} (hs : P s) (i : Idx) (x : Half) :
    NextIs P (Machine.execIncIhl i x s) := by
  exact nextIs_undocumented (h.stepHalf _ _ _ (hs))
theorem Closed.execDecIhl (h : Closed P) {s : State} (hs : P s) (i : Idx) (x : Half) :
    NextIs P (Machine.execDecIhl i x s) := by
  exact nextIs_undocumented (h.stepHalf _ _ _ (hs))
theorem Closed.execLdIhlN (h : Closed P) {s : State} (hs : P s) (i : Idx) (x : Half) (n : Byte) :
    NextIs P (Machine.execLdIhlN i x n s) := by
  exact nextIs_undocumented (h.skip _ (h.mapCpu _ (h.fetchOp2N (hs))))
theorem Closed.execIncMIx (h : Closed P) {s : State} (hs : P s) (i : Idx) (d : Byte) :
    NextIs P (Machine.execIncMIx i d s) := by
  exact nextIs_next (h.skip _ (h.stepMem _ _ (h.fetchIdx (hs))))
theorem Closed.execDecMIx (h : Closed P) {s : State} (hs : P s) (i : Idx) (d : Byte) :
    NextIs P (Machine.execDecMIx i d s) := by
  exact nextIs_next (h.skip _ (h.stepMem _ _ (h.fetchIdx (hs))))
theorem Closed.execLdMIxN (h : Closed P) {s : State} (hs : P s) (i : Idx) (d : Byte) (n : Byte) :
    NextIs P (Machine.execLdMIxN i d n s) := by
  exact nextIs_next (h.skip _ (h.memWrite _ _ (h.fetchIdxN (hs))))
theorem Closed.execLdRMIx (h : Closed P) {s : State} (hs : P s) (i : Idx) (r : Reg8) (d : Byte) :
    NextIs P (Machine.execLdRMIx i r d s) := by
  exact nextIs_next (h.skip _ (h.mapCpu _ (h.srcMIx _ _ (hs))))
theorem Closed.execLdMIxS (h : Closed P) {s : State} (hs : P s) (i : Idx) (r : Reg8) (d : Byte) :
    NextIs P (Machine.execLdMIxS i r d s) := by
  exact nextIs_next (h.skip _ (h.memWrite _ _ (h.fetchIdx (hs))))
theorem Closed.execLdHalves (h : Closed P) {s : State} (hs : P s) (i : Idx) (r : HalfReg) (r2 : HalfReg) :
    NextIs P (Machine.execLdHalves i r r2 s) := by
  exact nextIs_undocumented (h.skip _ (h.mapCpu _ (h.fetchOp2 (hs))))
theorem Closed.execAddAIhl (h : Closed P) {s : State} (hs : P s) (i : Idx) (x : Half) :
    NextIs P (Machine.execAddAIhl i x s) := by
  exact nextIs_undocumented (h.aluOnHalf _ _ _ (hs))
theorem Closed.execAddAMIx (h : Closed P) {s : State} (hs : P s) (i : Idx) (d : Byte) :
    NextIs P (Machine.execAddAMIx i d s) := by
  exact nextIs_next (h.aluOnMIx _ _ _ (hs))
theorem Closed.execAdcAIhl (h : Closed P) {s : State} (hs : P s) (i : Idx) (x : Half) :
    NextIs P (Machine.execAdcAIhl i x s) := by
  exact nextIs_undocumented (h.aluOnHalf _ _ _ (hs))
theorem Closed.execAdcAMIx (h : Closed P) {s : State} (hs : P s) (i : Idx) (d : Byte) :
    NextIs P (Machine.execAdcAMIx i d s) := by
  exact nextIs_next (h.aluOnMIx _ _ _ (hs))
theorem Closed.execSubAIhl (h : Closed P) {s : State} (hs : P s) (i : Idx) (x : Half) :
    NextIs P (Machine.execSubAIhl i x s) := by
  exact nextIs_undocumented (h.aluOnHalf _ _ _ (hs))
theorem Closed.execSubAMIx (h : Closed P) {s : State} (hs : P s) (i : Idx) (d : Byte) :
    NextIs P (Machine.execSubAMIx i d s) := by
  exact nextIs_next (h.aluOnMIx _ _ _ (hs))
theorem Closed.execSbcAIhl (h : Closed P) {s : State} (hs : P s) (i : Idx) (x : Half) :
    NextIs P (Machine.execSbcAIhl i x s) := by
  exact nextIs_undocumented (h.aluOnHalf _ _ _ (hs))
theorem Closed.execSbcAMIx (h : Closed P) {s : State} (hs : P s) (i : Idx) (d : Byte) :
    NextIs P (Machine.execSbcAMIx i d s) := by
  exact nextIs_next (h.aluOnMIx _ _ _ (hs))
theorem Closed.execAndAIhl (h : Closed P) {s : State} (hs : P s) (i : Idx) (x : Half) :
    NextIs P (Machine.execAndAIhl i x s) := by
  exact nextIs_undocumented (h.aluOnHalf _ _ _ (hs))
theorem Closed.execAndAMIx (h : Closed P) {s : State} (hs : P s) (i : Idx) (d : Byte) :
    NextIs P (Machine.execAndAMIx i d s) := by
  exact nextIs_next (h.aluOnMIx _ _ _ (hs))
theorem Closed.execXorAIhl (h : Closed P) {s : State} (hs : P s) (i : Idx) (x : Half) :
    NextIs P (Machine.execXorAIhl i x s) := by
  exact nextIs_undocumented (h.aluOnHalf _ _ _ (hs))
theorem Closed.execXorAMIx (h : Closed P) {s : State} (hs : P s) (i : Idx) (d : Byte) :
    NextIs P (Machine.execXorAMIx i d s) := by
  exact nextIs_next (h.aluOnMIx _ _ _ (hs))
theorem Closed.execOrAIhl (h : Closed P) {s : State} (hs : P s) (i : Idx) (x : Half) :
    NextIs P (Machine.execOrAIhl i x s) := by
  exact nextIs_undocumented (h.aluOnHalf _ _ _ (hs))
theorem Closed.execOrAMIx (h : Closed P) {s : State} (hs : P s) (i : Idx) (d : Byte) :
    NextIs P (Machine.execOrAMIx i d s) := by
  exact nextIs_next (h.aluOnMIx _ _ _ (hs))
theorem Closed.execCpAIhl (h : Closed P) {s : State} (hs : P s) (i : Idx) (x : Half) :
    NextIs P (Machine.execCpAIhl i x s) := by
  exact nextIs_undocumented (h.aluOnHalf _ _ _ (hs))
theorem Closed.execCpAMIx (h : Closed P) {s : State} (hs : P s) (i : Idx) (d : Byte) :
    NextIs P (Machine.execCpAMIx i d s) := by
  exact nextIs_next (h.aluOnMIx _ _ _ (hs))
theorem Closed.execPopIi (h : Closed P) {s : State} (hs : P s) (i : Idx) :
    NextIs P (Machine.execPopIi i s) := by
  exact nextIs_next (h.skip _ (h.mapCpu _ (h.pop (h.fetchOp2 (hs)))))
theorem Closed.execExMSpIi (h : Closed P) {s : State} (hs : P s) (i : Idx) :
    NextIs P (Machine.execExMSpIi i s) := by
  exact nextIs_next (h.skip _ (h.mapCpu _ (h.exchangeTop _ (h.fetchOp2 (hs)))))
theorem Closed.execPushIi (h : Closed P) {s : State} (hs : P s) (i : Idx) :
    NextIs P (Machine.execPushIi i s) := by
  exact nextIs_next (h.skip _ (h.push _ (h.internalIr _ (h.fetchOp2 (hs)))))
theorem Closed.execJpIi (h : Closed P) {s : State} (hs : P s) (i : Idx) :
    NextIs P (Machine.execJpIi i s) := by
  exact nextIs_next (h.setPc _ (h.fetchOp2 (hs)))
theorem Closed.execLdSpIi (h : Closed P) {s : State} (hs : P s) (i : Idx) :
    NextIs P (Machine.execLdSpIi i s) := by
  exact nextIs_next (h.skip _ (h.setSp _ (h.internalIr _ (h.fetchOp2 (hs)))))
theorem Closed.execIgnoredPrefix (h : Closed P) {s : State} (hs : P s) (i : Idx) :
    NextIs P (Machine.execIgnoredPrefix i s) := by
  exact nextIs_undocumented (h.skip _ (h.mapCpu _ (h.fetchOp (hs))))
theorem Closed.execRlcMIx (h : Closed P) {s : State} (hs : P s) (i : Idx) (d : Byte) :
    NextIs P (Machine.execRlcMIx i d s) := by
  exact nextIs_next (h.rotMIx _ _ _ (hs))
theorem Closed.execRlcMIxCopy (h : Closed P) {s : State} (hs : P s) (i : Idx) (d : Byte) (r : Reg8) :
    NextIs P (Machine.execRlcMIxCopy i d r s) := by
  exact nextIs_undocumented (h.rotMIxCopy _ _ _ _ (hs))
theorem Closed.execRrcMIx (h : Closed P) {s : State} (hs : P s) (i : Idx) (d : Byte) :
    NextIs P (Machine.execRrcMIx i d s) := by
  exact nextIs_next (h.rotMIx _ _ _ (hs))
theorem Closed.execRrcMIxCopy (h : Closed P) {s : State} (hs : P s) (i : Idx) (d : Byte) (r : Reg8) :
    NextIs P (Machine.execRrcMIxCopy i d r s) := by
  exact nextIs_undocumented (h.rotMIxCopy _ _ _ _ (hs))
theorem Closed.execRlMIx (h : Closed P) {s : State} (hs : P s) (i : Idx) (d : Byte) :
    NextIs P (Machine.execRlMIx i d s) := by
  exact nextIs_next (h.rotMIx _ _ _ (hs))
theorem Closed.execRlMIxCopy (h : Closed P) {s : State} (hs : P s) (i : Idx) (d : Byte) (r : Reg8) :
    NextIs P (Machine.execRlMIxCopy i d r s) := by
  exact nextIs_undocumented (h.rotMIxCopy _ _ _ _ (hs))
theorem Closed.execRrMIx (h : Closed P) {s : State} (hs : P s) (i : Idx) (d : Byte) :
    NextIs P (Machine.execRrMIx i d s) := by
  exact nextIs_next (h.rotMIx _ _ _ (hs))
theorem Closed.execRrMIxCopy (h : Closed P) {s : State} (hs : P s) (i : Idx) (d : Byte) (r : Reg8) :
    NextIs P (Machine.execRrMIxCopy i d r s) := by
  exact nextIs_undocumented (h.rotMIxCopy _ _ _ _ (hs))
theorem Closed.execSlaMIx (h : Closed P) {s : State} (hs : P s) (i : Idx) (d : Byte) :
    NextIs P (Machine.execSlaMIx i d s) := by
  exact nextIs_next (h.rotMIx _ _ _ (hs))
theorem Closed.execSlaMIxCopy (h : Closed P) {s : State} (hs : P s) (i : Idx) (d : Byte) (r : Reg8) :
    NextIs P (Machine.execSlaMIxCopy i d r s) := by
  exact nextIs_undocumented (h.rotMIxCopy _ _ _ _ (hs))
theorem Closed.execSraMIx (h : Closed P) {s : State} (hs : P s) (i : Idx) (d : Byte) :
    NextIs P (Machine.execSraMIx i d s) := by
  exact nextIs_next (h.rotMIx _ _ _ (hs))
theorem Closed.execSraMIxCopy (h : Closed P) {s : State} (hs : P s) (i : Idx) (d : Byte) (r : Reg8) :
    NextIs P (Machine.execSraMIxCopy i d r s) := by
  exact nextIs_undocumented (h.rotMIxCopy _ _ _ _ (hs))
theorem Closed.execSllMIx (h : Closed P) {s : State} (hs : P s) (i : Idx) (d : Byte) :
    NextIs P (Machine.execSllMIx i d s) := by
  exact nextIs_undocumented (h.rotMIx _ _ _ (hs))
theorem Closed.execSllMIxCopy (h : Closed P) {s : State} (hs : P s) (i : Idx) (d : Byte) (r : Reg8) :
    NextIs P (Machine.execSllMIxCopy i d r s) := by
  exact nextIs_undocumented (h.rotMIxCopy _ _ _ _ (hs))
theorem Closed.execSrlMIx (h : Closed P) {s : State} (hs : P s) (i : Idx) (d : Byte) :
    NextIs P (Machine.execSrlMIx i d s) := by
  exact nextIs_next (h.rotMIx _ _ _ (hs))
theorem Closed.execSrlMIxCopy (h : Closed P) {s : State} (hs : P s) (i : Idx) (d : Byte) (r : Reg8) :
    NextIs P (Machine.execSrlMIxCopy i d r s) := by
  exact nextIs_undocumented (h.rotMIxCopy _ _ _ _ (hs))
theorem Closed.execBitBMIx (h : Closed P) {s : State} (hs : P s) (i : Idx) (bit : BitVec 3) (d : Byte) :
    NextIs P (Machine.execBitBMIx i bit d s) := by
  exact nextIs_next (h.bitMIx _ _ _ (hs))
theorem Closed.execBitBMIxDup (h : Closed P) {s : State} (hs : P s) (i : Idx) (bit : BitVec 3) (d : Byte) (r : Reg8) :
    NextIs P (Machine.execBitBMIxDup i bit d r s) := by
  exact nextIs_undocumented (h.bitMIx _ _ _ (hs))
theorem Closed.execResBMIx (h : Closed P) {s : State} (hs : P s) (i : Idx) (bit : BitVec 3) (d : Byte) :
    NextIs P (Machine.execResBMIx i bit d s) := by
  exact nextIs_next (h.changeMIx _ _ _ (hs))
theorem Closed.execResBMIxCopy (h : Closed P) {s : State} (hs : P s) (i : Idx) (bit : BitVec 3) (d : Byte) (r : Reg8) :
    NextIs P (Machine.execResBMIxCopy i bit d r s) := by
  exact nextIs_undocumented (h.changeMIxCopy _ _ _ _ (hs))
theorem Closed.execSetBMIx (h : Closed P) {s : State} (hs : P s) (i : Idx) (bit : BitVec 3) (d : Byte) :
    NextIs P (Machine.execSetBMIx i bit d s) := by
  exact nextIs_next (h.changeMIx _ _ _ (hs))
theorem Closed.execSetBMIxCopy (h : Closed P) {s : State} (hs : P s) (i : Idx) (bit : BitVec 3) (d : Byte) (r : Reg8) :
    NextIs P (Machine.execSetBMIxCopy i bit d r s) := by
  exact nextIs_undocumented (h.changeMIxCopy _ _ _ _ (hs))
theorem Closed.execWdRestore (h : Closed P) {s : State} (hs : P s) (x : Bool) (v : Bool) (r : BitVec 2) :
    NextIs P (Machine.execWdRestore x v r s) := by
  exact nextIs_next (h.wd _ _ hs)
theorem Closed.execWdSeek (h : Closed P) {s : State} (hs : P s) (x : Bool) (v : Bool) (r : BitVec 2) :
    NextIs P (Machine.execWdSeek x v r s) := by
  exact nextIs_next (h.wd _ _ hs)
theorem Closed.execWdStep (h : Closed P) {s : State} (hs : P s) (u : Bool) (x : Bool) (v : Bool) (r : BitVec 2) :
    NextIs P (Machine.execWdStep u x v r s) := by
  exact nextIs_next (h.wd _ _ hs)
theorem Closed.execWdStepIn (h : Closed P) {s : State} (hs : P s) (u : Bool) (x : Bool) (v : Bool) (r : BitVec 2) :
    NextIs P (Machine.execWdStepIn u x v r s) := by
  exact nextIs_next (h.wd _ _ hs)
theorem Closed.execWdStepOut (h : Closed P) {s : State} (hs : P s) (u : Bool) (x : Bool) (v : Bool) (r : BitVec 2) :
    NextIs P (Machine.execWdStepOut u x v r s) := by
  exact nextIs_next (h.wd _ _ hs)
theorem Closed.execWdReadSector (h : Closed P) {s : State} (hs : P s) (m : Bool) (side : Bool) (e : Bool) (c : Bool) :
    NextIs P (Machine.execWdReadSector m side e c s) := by
  exact nextIs_next (h.wd _ _ hs)
theorem Closed.execWdWriteSector (h : Closed P) {s : State} (hs : P s) (m : Bool) (side : Bool) (e : Bool) (c : Bool) (a0 : Bool) :
    NextIs P (Machine.execWdWriteSector m side e c a0 s) := by
  exact nextIs_next (h.wd _ _ hs)
theorem Closed.execWdReadAddress (h : Closed P) {s : State} (hs : P s) (e : Bool) :
    NextIs P (Machine.execWdReadAddress e s) := by
  exact nextIs_next (h.wd _ _ hs)
theorem Closed.execWdReadTrack (h : Closed P) {s : State} (hs : P s) (e : Bool) :
    NextIs P (Machine.execWdReadTrack e s) := by
  exact nextIs_next (h.wd _ _ hs)
theorem Closed.execWdWriteTrack (h : Closed P) {s : State} (hs : P s) (e : Bool) :
    NextIs P (Machine.execWdWriteTrack e s) := by
  exact nextIs_next (h.wd _ _ hs)
theorem Closed.execWdForceInterrupt (h : Closed P) {s : State} (hs : P s) (cond : BitVec 4) :
    NextIs P (Machine.execWdForceInterrupt cond s) := by
  exact nextIs_next (h.wd _ _ hs)

/-- Every instruction keeps what every change it is made of keeps. -/
theorem exec_closed (h : Closed P) (i : Instr) {s : State} (hs : P s) : NextIs P (exec i s) := by
  cases i with
  | nop => exact h.execNop hs
  | ldRrNn rr nn => exact h.execLdRrNn hs rr nn
  | addHlRr rr => exact h.execAddHlRr hs rr
  | ldMBcA => exact h.execLdMBcA hs
  | ldMDeA => exact h.execLdMDeA hs
  | ldMNnHl nn => exact h.execLdMNnHl hs nn
  | ldMNnA nn => exact h.execLdMNnA hs nn
  | ldAMBc => exact h.execLdAMBc hs
  | ldAMDe => exact h.execLdAMDe hs
  | ldHlMNn nn => exact h.execLdHlMNn hs nn
  | ldAMNn nn => exact h.execLdAMNn hs nn
  | incRr rr => exact h.execIncRr hs rr
  | decRr rr => exact h.execDecRr hs rr
  | incR r => exact h.execIncR hs r
  | incMHl => exact h.execIncMHl hs
  | decR r => exact h.execDecR hs r
  | decMHl => exact h.execDecMHl hs
  | ldRN r n => exact h.execLdRN hs r n
  | ldMHlN n => exact h.execLdMHlN hs n
  | rlca => exact h.execRlca hs
  | rrca => exact h.execRrca hs
  | rla => exact h.execRla hs
  | rra => exact h.execRra hs
  | daa => exact h.execDaa hs
  | cpl => exact h.execCpl hs
  | scf => exact h.execScf hs
  | ccf => exact h.execCcf hs
  | exAfAf => exact h.execExAfAf hs
  | djnz e => exact h.execDjnz hs e
  | jr e => exact h.execJr hs e
  | jrC cc e => exact h.execJrC hs cc e
  | ldRS r r2 => exact h.execLdRS hs r r2
  | ldRMHl r => exact h.execLdRMHl hs r
  | ldMHlS r => exact h.execLdMHlS hs r
  | halt => exact h.execHalt hs
  | addAR r => exact h.execAddAR hs r
  | addAMHl => exact h.execAddAMHl hs
  | addAN n => exact h.execAddAN hs n
  | adcAR r => exact h.execAdcAR hs r
  | adcAMHl => exact h.execAdcAMHl hs
  | adcAN n => exact h.execAdcAN hs n
  | subAR r => exact h.execSubAR hs r
  | subAMHl => exact h.execSubAMHl hs
  | subAN n => exact h.execSubAN hs n
  | sbcAR r => exact h.execSbcAR hs r
  | sbcAMHl => exact h.execSbcAMHl hs
  | sbcAN n => exact h.execSbcAN hs n
  | andAR r => exact h.execAndAR hs r
  | andAMHl => exact h.execAndAMHl hs
  | andAN n => exact h.execAndAN hs n
  | xorAR r => exact h.execXorAR hs r
  | xorAMHl => exact h.execXorAMHl hs
  | xorAN n => exact h.execXorAN hs n
  | orAR r => exact h.execOrAR hs r
  | orAMHl => exact h.execOrAMHl hs
  | orAN n => exact h.execOrAN hs n
  | cpAR r => exact h.execCpAR hs r
  | cpAMHl => exact h.execCpAMHl hs
  | cpAN n => exact h.execCpAN hs n
  | retC cc => exact h.execRetC hs cc
  | popQq qq => exact h.execPopQq hs qq
  | ret => exact h.execRet hs
  | exx => exact h.execExx hs
  | jpHl => exact h.execJpHl hs
  | ldSpHl => exact h.execLdSpHl hs
  | jpCNn cc nn => exact h.execJpCNn hs cc nn
  | jpNn nn => exact h.execJpNn hs nn
  | outNA n => exact h.execOutNA hs n
  | inAN n => exact h.execInAN hs n
  | exMSpHl => exact h.execExMSpHl hs
  | exDeHl => exact h.execExDeHl hs
  | di => exact h.execDi hs
  | ei => exact h.execEi hs
  | callCNn cc nn => exact h.execCallCNn hs cc nn
  | pushQq qq => exact h.execPushQq hs qq
  | callNn nn => exact h.execCallNn hs nn
  | rst t => exact h.execRst hs t
  | rlcR r => exact h.execRlcR hs r
  | rlcMHl => exact h.execRlcMHl hs
  | rrcR r => exact h.execRrcR hs r
  | rrcMHl => exact h.execRrcMHl hs
  | rlR r => exact h.execRlR hs r
  | rlMHl => exact h.execRlMHl hs
  | rrR r => exact h.execRrR hs r
  | rrMHl => exact h.execRrMHl hs
  | slaR r => exact h.execSlaR hs r
  | slaMHl => exact h.execSlaMHl hs
  | sraR r => exact h.execSraR hs r
  | sraMHl => exact h.execSraMHl hs
  | sllR r => exact h.execSllR hs r
  | sllMHl => exact h.execSllMHl hs
  | srlR r => exact h.execSrlR hs r
  | srlMHl => exact h.execSrlMHl hs
  | bitBR bit r => exact h.execBitBR hs bit r
  | bitBMHl bit => exact h.execBitBMHl hs bit
  | resBR bit r => exact h.execResBR hs bit r
  | resBMHl bit => exact h.execResBMHl hs bit
  | setBR bit r => exact h.execSetBR hs bit r
  | setBMHl bit => exact h.execSetBMHl hs bit
  | inRC r => exact h.execInRC hs r
  | inFC => exact h.execInFC hs
  | outCR r => exact h.execOutCR hs r
  | outC0 => exact h.execOutC0 hs
  | sbcHlRr rr => exact h.execSbcHlRr hs rr
  | adcHlRr rr => exact h.execAdcHlRr hs rr
  | ldMNnRr rr nn => exact h.execLdMNnRr hs rr nn
  | ldRrMNn rr nn => exact h.execLdRrMNn hs rr nn
  | neg => exact h.execNeg hs
  | negDup y => exact h.execNegDup hs y
  | retn => exact h.execRetn hs
  | reti => exact h.execReti hs
  | retnDup y => exact h.execRetnDup hs y
  | im0 => exact h.execIm0 hs
  | im1 => exact h.execIm1 hs
  | im2 => exact h.execIm2 hs
  | imDup y => exact h.execImDup hs y
  | ldIA => exact h.execLdIA hs
  | ldRA => exact h.execLdRA hs
  | ldAI => exact h.execLdAI hs
  | ldAR => exact h.execLdAR hs
  | rrd => exact h.execRrd hs
  | rld => exact h.execRld hs
  | nopEd7 y => exact h.execNopEd7 hs y
  | ldi => exact h.execLdi hs
  | ldd => exact h.execLdd hs
  | ldir => exact h.execLdir hs
  | lddr => exact h.execLddr hs
  | cpi => exact h.execCpi hs
  | cpd => exact h.execCpd hs
  | cpir => exact h.execCpir hs
  | cpdr => exact h.execCpdr hs
  | ini => exact h.execIni hs
  | ind => exact h.execInd hs
  | inir => exact h.execInir hs
  | indr => exact h.execIndr hs
  | outi => exact h.execOuti hs
  | outd => exact h.execOutd hs
  | otir => exact h.execOtir hs
  | otdr => exact h.execOtdr hs
  | noni op => exact h.execNoni hs op
  | ldIiNn i nn => exact h.execLdIiNn hs i nn
  | addIiRr i pp => exact h.execAddIiRr hs i pp
  | ldMNnIi i nn => exact h.execLdMNnIi hs i nn
  | ldIiMNn i nn => exact h.execLdIiMNn hs i nn
  | incIi i => exact h.execIncIi hs i
  | decIi i => exact h.execDecIi hs i
  | incIhl i x => exact h.execIncIhl hs i x
  | decIhl i x => exact h.execDecIhl hs i x
  | ldIhlN i x n => exact h.execLdIhlN hs i x n
  | incMIx i d => exact h.execIncMIx hs i d
  | decMIx i d => exact h.execDecMIx hs i d
  | ldMIxN i d n => exact h.execLdMIxN hs i d n
  | ldRMIx i r d => exact h.execLdRMIx hs i r d
  | ldMIxS i r d => exact h.execLdMIxS hs i r d
  | ldHalves i r r2 => exact h.execLdHalves hs i r r2
  | addAIhl i x => exact h.execAddAIhl hs i x
  | addAMIx i d => exact h.execAddAMIx hs i d
  | adcAIhl i x => exact h.execAdcAIhl hs i x
  | adcAMIx i d => exact h.execAdcAMIx hs i d
  | subAIhl i x => exact h.execSubAIhl hs i x
  | subAMIx i d => exact h.execSubAMIx hs i d
  | sbcAIhl i x => exact h.execSbcAIhl hs i x
  | sbcAMIx i d => exact h.execSbcAMIx hs i d
  | andAIhl i x => exact h.execAndAIhl hs i x
  | andAMIx i d => exact h.execAndAMIx hs i d
  | xorAIhl i x => exact h.execXorAIhl hs i x
  | xorAMIx i d => exact h.execXorAMIx hs i d
  | orAIhl i x => exact h.execOrAIhl hs i x
  | orAMIx i d => exact h.execOrAMIx hs i d
  | cpAIhl i x => exact h.execCpAIhl hs i x
  | cpAMIx i d => exact h.execCpAMIx hs i d
  | popIi i => exact h.execPopIi hs i
  | exMSpIi i => exact h.execExMSpIi hs i
  | pushIi i => exact h.execPushIi hs i
  | jpIi i => exact h.execJpIi hs i
  | ldSpIi i => exact h.execLdSpIi hs i
  | ignoredPrefix i => exact h.execIgnoredPrefix hs i
  | rlcMIx i d => exact h.execRlcMIx hs i d
  | rlcMIxCopy i d r => exact h.execRlcMIxCopy hs i d r
  | rrcMIx i d => exact h.execRrcMIx hs i d
  | rrcMIxCopy i d r => exact h.execRrcMIxCopy hs i d r
  | rlMIx i d => exact h.execRlMIx hs i d
  | rlMIxCopy i d r => exact h.execRlMIxCopy hs i d r
  | rrMIx i d => exact h.execRrMIx hs i d
  | rrMIxCopy i d r => exact h.execRrMIxCopy hs i d r
  | slaMIx i d => exact h.execSlaMIx hs i d
  | slaMIxCopy i d r => exact h.execSlaMIxCopy hs i d r
  | sraMIx i d => exact h.execSraMIx hs i d
  | sraMIxCopy i d r => exact h.execSraMIxCopy hs i d r
  | sllMIx i d => exact h.execSllMIx hs i d
  | sllMIxCopy i d r => exact h.execSllMIxCopy hs i d r
  | srlMIx i d => exact h.execSrlMIx hs i d
  | srlMIxCopy i d r => exact h.execSrlMIxCopy hs i d r
  | bitBMIx i bit d => exact h.execBitBMIx hs i bit d
  | bitBMIxDup i bit d r => exact h.execBitBMIxDup hs i bit d r
  | resBMIx i bit d => exact h.execResBMIx hs i bit d
  | resBMIxCopy i bit d r => exact h.execResBMIxCopy hs i bit d r
  | setBMIx i bit d => exact h.execSetBMIx hs i bit d
  | setBMIxCopy i bit d r => exact h.execSetBMIxCopy hs i bit d r
  | wdRestore x v r => exact h.execWdRestore hs x v r
  | wdSeek x v r => exact h.execWdSeek hs x v r
  | wdStep u x v r => exact h.execWdStep hs u x v r
  | wdStepIn u x v r => exact h.execWdStepIn hs u x v r
  | wdStepOut u x v r => exact h.execWdStepOut hs u x v r
  | wdReadSector m side e c => exact h.execWdReadSector hs m side e c
  | wdWriteSector m side e c a0 => exact h.execWdWriteSector hs m side e c a0
  | wdReadAddress e => exact h.execWdReadAddress hs e
  | wdReadTrack e => exact h.execWdReadTrack hs e
  | wdWriteTrack e => exact h.execWdWriteTrack hs e
  | wdForceInterrupt cond => exact h.execWdForceInterrupt hs cond

/-- An instruction step keeps what every instruction keeps. -/
theorem instructionStep_closed (h : Closed P) {s : State} (hs : P s) : NextIs P (instructionStep s) := by
  unfold instructionStep
  split
  · exact exec_closed h _ (h.clearEiBlock hs)
  · intro t ht
    cases ht

/-- A turn of the frame loop keeps what every instruction keeps. -/
theorem loopStep_closed (h : Closed P) {s : State} (hs : P s) : NextIs P (loopStep s) := by
  unfold loopStep
  split
  · exact nextIs_next (h.acceptNmi hs)
  · split
    · exact nextIs_next (h.acceptInt hs)
    · split
      · exact nextIs_next (h.haltedStep hs)
      · exact instructionStep_closed h hs

/-- What a step can do: a host action at a frame boundary, a turn of the frame loop, the end of a frame. -/
theorem step_cases {s t : State} (h : step s = .next t) :
    (∃ a rest, s.frameBoundary = true ∧ s.hostQueue = a :: rest
        ∧ t = applyAction a { s with hostQueue := rest })
      ∨ (s.clock.tstates < (archConfig s.cfg).tFrame ∧ loopStep s.inFrame = .next t)
      ∨ ((archConfig s.cfg).tFrame ≤ s.clock.tstates ∧ t = endOfFrame s) := by
  unfold step at h
  split at h
  · cases h
  · split at h
    · rename_i a rest hb hq
      cases h
      exact .inl ⟨a, rest, hb, hq, rfl⟩
    · split at h
      · exact .inr (.inl ⟨by assumption, h⟩)
      · cases h
        exact .inr (.inr ⟨by omega, rfl⟩)

/-- A property that every instruction, every host action and the end of a frame keep is kept by a step. -/
theorem step_closed (h : Closed P) (ha : ∀ a s, P s → P (applyAction a s))
    (hq : ∀ s q, P s → P { s with hostQueue := q }) (hf : ∀ s, P s → P s.inFrame)
    (he : ∀ s, P s → P (endOfFrame s)) {s t : State} (hst : step s = .next t) (hs : P s) : P t := by
  obtain ⟨a, rest, -, -, rfl⟩ | ⟨-, hl⟩ | ⟨-, rfl⟩ := step_cases hst
  · exact ha _ _ (hq _ _ hs)
  · exact loopStep_closed h (hf _ hs) t hl
  · exact he _ hs

end Sys2Proof.Machine
end

