-- ==== Sys2Proof/Laws/Frames.lean ====
section
/-! SUPPORT. How a statement about what an instruction leaves unchanged is met: one goal per field. -/

namespace Sys2Proof.Machine

/-- Two states with the same fields are the same state. -/
theorem State.eq_of_fields {s t : State} (hcfg : s.cfg = t.cfg) (hcpu : s.cpu = t.cpu)
    (hclock : s.clock = t.clock) (hpg : s.paging = t.paging) (hram : s.ram = t.ram)
    (hrom : s.rom = t.rom) (hula : s.ula = t.ula) (hfb : s.framebuffer = t.framebuffer)
    (hay : s.ay = t.ay) (hdisk : s.disk = t.disk) (htape : s.tape = t.tape)
    (hdraw : s.drawCount = t.drawCount) (hq : s.hostQueue = t.hostQueue)
    (hb : s.frameBoundary = t.frameBoundary) (hok : s.hostOk = t.hostOk) : s = t := by
  cases s
  cases t
  simp_all

/-- The fields `RegsOnly` speaks of. -/
theorem RegsOnly.intro {s t bus : State} {pg : Paging} {c : Cpu} (hcfg : t.cfg = s.cfg) (hcpu : t.cpu = c)
    (hclock : t.clock = bus.clock) (hpg : t.paging = pg) (hram : t.ram = s.ram)
    (hrom : t.rom = s.rom) (hula : t.ula = s.ula) (hfb : t.framebuffer = bus.framebuffer)
    (hay : t.ay = s.ay) (hdisk : t.disk = s.disk) (htape : t.tape = s.tape)
    (hdraw : t.drawCount = s.drawCount) (hq : t.hostQueue = s.hostQueue)
    (hb : t.frameBoundary = s.frameBoundary) (hok : t.hostOk = s.hostOk) : RegsOnly s t bus pg c :=
  ⟨State.eq_of_fields hcfg hcpu hclock hpg hram hrom hula hfb hay hdisk htape hdraw hq hb hok,
    fun q => by rw [hram], fun q => by rw [hrom]⟩

/-- A store of one byte keeps the canonical form. -/
theorem writeThrough_wf (pg : Paging) (ram : Memory) (h : Memory.wf ram = true) (a : Word) (v : Byte) :
    Memory.wf (writeThrough pg ram a v) = true := by
  unfold writeThrough
  split
  · exact h
  · exact memSet_wf ram h _ v

/-- A byte of RAM after a store of one byte. -/
theorem memGet_writeThrough (pg : Paging) (ram : Memory) (h : Memory.wf ram = true) (a : Word) (v : Byte)
    (q : Nat) :
    memGet (writeThrough pg ram a v) q = if storePlace pg a = some q then v else memGet ram q := by
  unfold writeThrough
  cases hp : storePlace pg a with
  | none => simp
  | some p =>
    simp only [memGet_memSet ram h, Option.some.injEq]
    by_cases hq : p = q
    · simp [hq]
    · simp [hq, Ne.symm hq]

/-- Stores keep the canonical form. -/
theorem storeAll_wf (pg : Paging) (ws : List (Word × Byte)) (ram : Memory) (h : Memory.wf ram = true) :
    Memory.wf (storeAll pg ram ws) = true := by
  induction ws generalizing ram with
  | nil => exact h
  | cons w ws ih => exact ih _ (writeThrough_wf pg ram h w.1 w.2)

/-- A byte no store lands at. -/
theorem memGet_storeAll_of_ne (pg : Paging) (ws : List (Word × Byte)) (ram : Memory)
    (h : Memory.wf ram = true) (q : Nat) (hq : ∀ w ∈ ws, storePlace pg w.1 ≠ some q) :
    memGet (storeAll pg ram ws) q = memGet ram q := by
  induction ws generalizing ram with
  | nil => rfl
  | cons w ws ih =>
    have hw := hq w (by simp)
    have := ih (writeThrough pg ram w.1 w.2) (writeThrough_wf pg ram h _ _)
      (fun x hx => hq x (by simp [hx]))
    simpa [storeAll, memGet_writeThrough pg ram h, hw] using this

/-- The last byte stored. -/
theorem memGet_storeAll_last (pg : Paging) (ws : List (Word × Byte)) (ram : Memory)
    (h : Memory.wf ram = true) (w : Word × Byte) (q : Nat) (hl : ws.getLast? = some w)
    (hq : storePlace pg w.1 = some q) : memGet (storeAll pg ram ws) q = w.2 := by
  obtain ⟨init, rfl⟩ := List.getLast?_eq_some_iff.mp hl
  have hi := storeAll_wf pg init ram h
  have : storeAll pg ram (init ++ [w]) = writeThrough pg (storeAll pg ram init) w.1 w.2 := by
    simp [storeAll]
  rw [this, memGet_writeThrough pg _ hi]
  simp [hq]

/-- The fields `StoresOnly` speaks of. -/
theorem StoresOnly.intro {s t bus : State} {pg : Paging} {c : Cpu} {ws : List (Word × Byte)}
    (hcfg : t.cfg = s.cfg) (hcpu : t.cpu = c)
    (hclock : t.clock = bus.clock) (hpg : t.paging = pg) (hram : t.ram = storeAll pg s.ram ws)
    (hrom : t.rom = s.rom) (hula : t.ula = s.ula) (hfb : t.framebuffer = bus.framebuffer)
    (hay : t.ay = s.ay) (hdisk : t.disk = s.disk) (htape : t.tape = s.tape)
    (hdraw : t.drawCount = s.drawCount) (hq : t.hostQueue = s.hostQueue)
    (hb : t.frameBoundary = s.frameBoundary) (hok : t.hostOk = s.hostOk) :
    StoresOnly s t bus pg c ws := by
  refine ⟨State.eq_of_fields hcfg hcpu hclock hpg hram hrom hula hfb hay hdisk htape hdraw hq hb hok,
    fun q => by rw [hrom], fun hwf q hn => ?_, fun hwf w q hl hp => ?_⟩
  · rw [hram]
    exact memGet_storeAll_of_ne pg ws s.ram hwf q hn
  · rw [hram]
    exact memGet_storeAll_last pg ws s.ram hwf w q hl hp

/-- The fields `ReadsPort` speaks of. -/
theorem ReadsPort.intro {s t u bus : State} {pg : Paging} {c : Cpu} {ws : List (Word × Byte)}
    (hcfg : t.cfg = s.cfg) (hcpu : t.cpu = c)
    (hclock : t.clock = bus.clock) (hpg : t.paging = pg) (hram : t.ram = storeAll pg s.ram ws)
    (hrom : t.rom = s.rom) (hula : t.ula = s.ula) (hfb : t.framebuffer = bus.framebuffer)
    (hay : t.ay = s.ay) (hdisk : t.disk = u.disk) (htape : t.tape = u.tape)
    (hdraw : t.drawCount = s.drawCount) (hq : t.hostQueue = s.hostQueue)
    (hb : t.frameBoundary = s.frameBoundary) (hok : t.hostOk = s.hostOk) :
    ReadsPort s t u bus pg c ws := by
  refine ⟨State.eq_of_fields hcfg hcpu hclock hpg hram hrom hula hfb hay hdisk htape hdraw hq hb hok,
    fun q => by rw [hrom], fun hwf q hn => ?_⟩
  rw [hram]
  exact memGet_storeAll_of_ne pg ws s.ram hwf q hn

/-- The fields `WritesPort` speaks of. -/
theorem WritesPort.intro {s t u bus : State} {c : Cpu}
    (hcfg : t.cfg = s.cfg) (hcpu : t.cpu = c)
    (hclock : t.clock = bus.clock) (hpg : t.paging = u.paging) (hram : t.ram = s.ram)
    (hrom : t.rom = s.rom) (hula : t.ula = u.ula) (hfb : t.framebuffer = bus.framebuffer)
    (hay : t.ay = u.ay) (hdisk : t.disk = u.disk) (htape : t.tape = s.tape)
    (hdraw : t.drawCount = s.drawCount) (hq : t.hostQueue = s.hostQueue)
    (hb : t.frameBoundary = s.frameBoundary) (hok : t.hostOk = s.hostOk) : WritesPort s t u bus c :=
  ⟨State.eq_of_fields hcfg hcpu hclock hpg hram hrom hula hfb hay hdisk htape hdraw hq hb hok,
    fun q => by rw [hram], fun q => by rw [hrom]⟩

/-! The clocks and the framebuffer after a read, in one form: `skipRead`. -/

@[simp] theorem memRead_clock (a : Word) (s : State) :
    ((memRead a s).2).clock = (skipRead a s).clock := rfl
@[simp] theorem memRead_framebuffer (a : Word) (s : State) :
    ((memRead a s).2).framebuffer = (skipRead a s).framebuffer := rfl
@[simp] theorem memReadWord_clock (a : Word) (s : State) :
    ((memReadWord a s).2).clock = (skipRead (a + 1) (skipRead a s)).clock := rfl
@[simp] theorem memReadWord_framebuffer (a : Word) (s : State) :
    ((memReadWord a s).2).framebuffer = (skipRead (a + 1) (skipRead a s)).framebuffer := rfl
@[simp] theorem pop_clock (s : State) :
    ((pop s).2).clock = (skipRead (s.cpu.sp + 1) (skipRead s.cpu.sp s)).clock := rfl
@[simp] theorem pop_framebuffer (s : State) :
    ((pop s).2).framebuffer = (skipRead (s.cpu.sp + 1) (skipRead s.cpu.sp s)).framebuffer := rfl
@[simp] theorem srcMHl_clock (s : State) :
    ((srcMHl s).2).clock = (skipRead s.cpu.hl (fetchOp s)).clock := rfl
@[simp] theorem srcMHl_framebuffer (s : State) :
    ((srcMHl s).2).framebuffer = (skipRead s.cpu.hl (fetchOp s)).framebuffer := rfl
@[simp] theorem srcMIx_clock (i : Idx) (d : Byte) (s : State) :
    ((srcMIx i d s).2).clock = (skipRead (s.cpu.ea i d) (fetchIdx s)).clock := rfl
@[simp] theorem srcMIx_framebuffer (i : Idx) (d : Byte) (s : State) :
    ((srcMIx i d s).2).framebuffer = (skipRead (s.cpu.ea i d) (fetchIdx s)).framebuffer := rfl
@[simp] theorem probe_clock (a : Word) (s : State) :
    ((probe a s).2).clock = (internal a 1 (skipRead a s)).clock := rfl
@[simp] theorem probe_framebuffer (a : Word) (s : State) :
    ((probe a s).2).framebuffer = (internal a 1 (skipRead a s)).framebuffer := rfl

end Sys2Proof.Machine
end

