-- ==== Sys2Proof/Laws/Hidden.lean ====
section
/-! SUPPORT. The registers of the Z80 and the draw counter are hidden from the bus: no cycle's time, pixels
or data depend on them, so a change of them may be moved past any cycle. -/

namespace Sys2Proof.Machine

/-- The registers and the draw counter replaced. -/
def State.hide (c : Cpu) (n : Nat) (s : State) : State := { s with cpu := c, drawCount := n }

theorem setPc_eq_hide (s : State) (a : Word) :
    s.setPc a = s.hide { s.cpu with pc := a } s.drawCount := rfl
theorem setSp_eq_hide (s : State) (a : Word) :
    s.setSp a = s.hide { s.cpu with sp := a } s.drawCount := rfl
theorem skip_eq_hide (s : State) (k : Nat) :
    s.skip k = s.hide { s.cpu with pc := s.cpu.pc + BitVec.ofNat 16 k } s.drawCount := rfl
theorem mapCpu_eq_hide (s : State) (f : Cpu → Cpu) : s.mapCpu f = s.hide (f s.cpu) s.drawCount := rfl
theorem setF_eq_hide (s : State) (f : Byte) : s.setF f = s.hide { s.cpu with f := f } s.drawCount := rfl
theorem setA_eq_hide (s : State) (a : Byte) : s.setA a = s.hide { s.cpu with a := a } s.drawCount := rfl
theorem setAF_eq_hide (s : State) (a f : Byte) :
    s.setAF a f = s.hide { s.cpu with a := a, f := f } s.drawCount := rfl
theorem bumpR_eq_hide (s : State) : bumpR s = s.hide { s.cpu with r := nextR s.cpu.r } s.drawCount := rfl
theorem drawBool_eq_hide (s : State) :
    drawBool s = (Config.drawBool s.drawCount, s.hide s.cpu (s.drawCount + 1)) := rfl

/-- The state after a read, in one form. -/
theorem memRead_snd (a : Word) (s : State) : (memRead a s).2 = skipRead a s := rfl

@[simp] theorem hide_hide (c d : Cpu) (m n : Nat) (s : State) :
    (s.hide c m).hide d n = s.hide d n := rfl
@[simp] theorem hide_cpu (c : Cpu) (n : Nat) (s : State) : (s.hide c n).cpu = c := rfl
@[simp] theorem hide_drawCount (c : Cpu) (n : Nat) (s : State) : (s.hide c n).drawCount = n := rfl
@[simp] theorem hide_cfg (c : Cpu) (n : Nat) (s : State) : (s.hide c n).cfg = s.cfg := rfl
@[simp] theorem hide_clock (c : Cpu) (n : Nat) (s : State) : (s.hide c n).clock = s.clock := rfl
@[simp] theorem hide_paging (c : Cpu) (n : Nat) (s : State) : (s.hide c n).paging = s.paging := rfl
@[simp] theorem hide_ram (c : Cpu) (n : Nat) (s : State) : (s.hide c n).ram = s.ram := rfl
@[simp] theorem hide_rom (c : Cpu) (n : Nat) (s : State) : (s.hide c n).rom = s.rom := rfl
@[simp] theorem hide_ula (c : Cpu) (n : Nat) (s : State) : (s.hide c n).ula = s.ula := rfl
@[simp] theorem hide_framebuffer (c : Cpu) (n : Nat) (s : State) :
    (s.hide c n).framebuffer = s.framebuffer := rfl
@[simp] theorem hide_ay (c : Cpu) (n : Nat) (s : State) : (s.hide c n).ay = s.ay := rfl
@[simp] theorem hide_disk (c : Cpu) (n : Nat) (s : State) : (s.hide c n).disk = s.disk := rfl
@[simp] theorem hide_tape (c : Cpu) (n : Nat) (s : State) : (s.hide c n).tape = s.tape := rfl
@[simp] theorem hide_hostQueue (c : Cpu) (n : Nat) (s : State) :
    (s.hide c n).hostQueue = s.hostQueue := rfl
@[simp] theorem hide_frameBoundary (c : Cpu) (n : Nat) (s : State) :
    (s.hide c n).frameBoundary = s.frameBoundary := rfl
@[simp] theorem hide_hostOk (c : Cpu) (n : Nat) (s : State) : (s.hide c n).hostOk = s.hostOk := rfl

/-! ## The cycles -/

@[simp] theorem advance_hide (k : Nat) (c : Cpu) (n : Nat) (s : State) :
    advance k (s.hide c n) = (advance k s).hide c n := rfl

@[simp] theorem contend_hide (a : Word) (c : Cpu) (n : Nat) (s : State) :
    contend a (s.hide c n) = (contend a s).hide c n := by
  unfold contend
  split <;> simp_all

@[simp] theorem chargeCycle_hide (a : Word) (k : Nat) (c : Cpu) (n : Nat) (s : State) :
    chargeCycle a k (s.hide c n) = (chargeCycle a k s).hide c n := by
  simp [chargeCycle]

@[simp] theorem skipRead_hide (a : Word) (c : Cpu) (n : Nat) (s : State) :
    skipRead a (s.hide c n) = (skipRead a s).hide c n := by
  simp [skipRead, memRead]

@[simp] theorem memRead_hide (a : Word) (c : Cpu) (n : Nat) (s : State) :
    memRead a (s.hide c n) = ((memRead a s).1, (memRead a s).2.hide c n) := by
  simp [memRead, State.readByte]

@[simp] theorem memWrite_hide (a : Word) (v : Byte) (c : Cpu) (n : Nat) (s : State) :
    memWrite a v (s.hide c n) = (memWrite a v s).hide c n := by
  have h : ∀ t : State, (t.hide c n).writeByte a v = (t.writeByte a v).hide c n := fun _ => rfl
  simp [memWrite, h]

@[simp] theorem internal_hide (a : Word) (k : Nat) (c : Cpu) (n : Nat) (s : State) :
    internal a k (s.hide c n) = (internal a k s).hide c n := by
  induction k generalizing s with
  | zero => rfl
  | succ k ih => simp [internal, ih]

@[simp] theorem ioContended_hide (k : Nat) (c : Cpu) (n : Nat) (s : State) :
    ioContended k (s.hide c n) = (ioContended k s).hide c n := by
  unfold ioContended
  split <;> simp_all

@[simp] theorem chargeIo_hide (p : Word) (c : Cpu) (n : Nat) (s : State) :
    chargeIo p (s.hide c n) = (chargeIo p s).hide c n := by
  unfold chargeIo
  split <;> split <;> simp_all

@[simp] theorem portRead_hide (p : Word) (c : Cpu) (n : Nat) (s : State) :
    portRead p (s.hide c n) = ((portRead p s).1, (portRead p s).2.hide c n) := by
  have hb : betaSelected (s.hide c n) p = betaSelected s p := rfl
  have hf : ∀ t, floatingBus (s.hide c n) t = floatingBus s t := fun _ => rfl
  simp only [portRead, hb, hf, ulaRead, hide_cfg, hide_clock, hide_disk, hide_tape, hide_ula, hide_ay]
  cases betaSelected s p <;> cases isUlaPort p <;> cases (archConfig s.cfg).hasAy <;>
    cases isAySelectPort p <;> cases (s.cfg.kempston && loByte p == 0x1F) <;> rfl

theorem ite_hide {p : Prop} [Decidable p] {x y u v : State} (c : Cpu) (n : Nat) (hx : u = x.hide c n)
    (hy : v = y.hide c n) : (if p then u else v) = (if p then x else y).hide c n := by
  subst hx hy
  split <;> rfl

@[simp] theorem portWriteUla_hide (p : Word) (v : Byte) (c : Cpu) (n : Nat) (s : State) :
    portWriteUla p v (s.hide c n) = (portWriteUla p v s).hide c n := by
  unfold portWriteUla
  cases isUlaPort p <;> rfl

@[simp] theorem portWritePaging_hide (p : Word) (v : Byte) (c : Cpu) (n : Nat) (s : State) :
    portWritePaging p v (s.hide c n) = (portWritePaging p v s).hide c n := by
  exact ite_hide c n rfl rfl

@[simp] theorem portWriteAy_hide (p : Word) (v : Byte) (c : Cpu) (n : Nat) (s : State) :
    portWriteAy p v (s.hide c n) = (portWriteAy p v s).hide c n := by
  exact ite_hide c n rfl (ite_hide c n rfl rfl)

@[simp] theorem portWrite_hide (p : Word) (v : Byte) (c : Cpu) (n : Nat) (s : State) :
    portWrite p v (s.hide c n) = (portWrite p v s).hide c n := by
  have hb : betaSelected (s.hide c n) p = betaSelected s p := rfl
  simp only [portWrite, hb, portWriteUla_hide, portWritePaging_hide, portWriteAy_hide]
  cases betaSelected s p <;> rfl

@[simp] theorem ioRead_hide (p : Word) (c : Cpu) (n : Nat) (s : State) :
    ioRead p (s.hide c n) = ((ioRead p s).1, (ioRead p s).2.hide c n) := by
  simp [ioRead]

@[simp] theorem ioWrite_hide (p : Word) (v : Byte) (c : Cpu) (n : Nat) (s : State) :
    ioWrite p v (s.hide c n) = (ioWrite p v s).hide c n := by
  simp [ioWrite]

end Sys2Proof.Machine
end

