-- ==== Sys2Proof/Laws/PerInstr.lean ====
section
/-! SUPPORT. Statements made for every instruction, one lemma per constructor: an encoding is one to four
bytes (30 R198), one byte for a WD1793 command (30 R205). -/

namespace Sys2Proof.Laws.Encoding

/-- The length of an instruction's encoding (30 R198, R205). -/
def Statement (i : Instr) : Prop :=
  1 ≤ (encode i).length ∧ (encode i).length ≤ 4 ∧ (i.isWdCommand = true → (encode i).length = 1)

end Sys2Proof.Laws.Encoding

namespace Sys2Proof.Laws

theorem encoding_of_one_byte {i : Instr} (h : (encode i).length = 1) : Encoding.Statement i := by
  simp [Encoding.Statement, h]

theorem encoding_of_many_bytes {i : Instr} (lo : Nat.ble 1 (encode i).length = true)
    (hi : Nat.ble (encode i).length 4 = true) (hw : i.isWdCommand = false) : Encoding.Statement i := by
  simp [Encoding.Statement, hw, Nat.le_of_ble_eq_true lo, Nat.le_of_ble_eq_true hi]

end Sys2Proof.Laws

namespace Sys2Proof.Laws.Encoding

theorem nop : Statement (.nop) :=
  encoding_of_many_bytes rfl rfl rfl
theorem ldRrNn (rr : RegPair) (nn : Word) : Statement (.ldRrNn rr nn) :=
  encoding_of_many_bytes rfl rfl rfl
theorem addHlRr (rr : RegPair) : Statement (.addHlRr rr) :=
  encoding_of_many_bytes rfl rfl rfl
theorem ldMBcA : Statement (.ldMBcA) :=
  encoding_of_many_bytes rfl rfl rfl
theorem ldMDeA : Statement (.ldMDeA) :=
  encoding_of_many_bytes rfl rfl rfl
theorem ldMNnHl (nn : Word) : Statement (.ldMNnHl nn) :=
  encoding_of_many_bytes rfl rfl rfl
theorem ldMNnA (nn : Word) : Statement (.ldMNnA nn) :=
  encoding_of_many_bytes rfl rfl rfl
theorem ldAMBc : Statement (.ldAMBc) :=
  encoding_of_many_bytes rfl rfl rfl
theorem ldAMDe : Statement (.ldAMDe) :=
  encoding_of_many_bytes rfl rfl rfl
theorem ldHlMNn (nn : Word) : Statement (.ldHlMNn nn) :=
  encoding_of_many_bytes rfl rfl rfl
theorem ldAMNn (nn : Word) : Statement (.ldAMNn nn) :=
  encoding_of_many_bytes rfl rfl rfl
theorem incRr (rr : RegPair) : Statement (.incRr rr) :=
  encoding_of_many_bytes rfl rfl rfl
theorem decRr (rr : RegPair) : Statement (.decRr rr) :=
  encoding_of_many_bytes rfl rfl rfl
theorem incR (r : Reg8) : Statement (.incR r) :=
  encoding_of_many_bytes rfl rfl rfl
theorem incMHl : Statement (.incMHl) :=
  encoding_of_many_bytes rfl rfl rfl
theorem decR (r : Reg8) : Statement (.decR r) :=
  encoding_of_many_bytes rfl rfl rfl
theorem decMHl : Statement (.decMHl) :=
  encoding_of_many_bytes rfl rfl rfl
theorem ldRN (r : Reg8) (n : Byte) : Statement (.ldRN r n) :=
  encoding_of_many_bytes rfl rfl rfl
theorem ldMHlN (n : Byte) : Statement (.ldMHlN n) :=
  encoding_of_many_bytes rfl rfl rfl
theorem rlca : Statement (.rlca) :=
  encoding_of_many_bytes rfl rfl rfl
theorem rrca : Statement (.rrca) :=
  encoding_of_many_bytes rfl rfl rfl
theorem rla : Statement (.rla) :=
  encoding_of_many_bytes rfl rfl rfl
theorem rra : Statement (.rra) :=
  encoding_of_many_bytes rfl rfl rfl
theorem daa : Statement (.daa) :=
  encoding_of_many_bytes rfl rfl rfl
theorem cpl : Statement (.cpl) :=
  encoding_of_many_bytes rfl rfl rfl
theorem scf : Statement (.scf) :=
  encoding_of_many_bytes rfl rfl rfl
theorem ccf : Statement (.ccf) :=
  encoding_of_many_bytes rfl rfl rfl
theorem exAfAf : Statement (.exAfAf) :=
  encoding_of_many_bytes rfl rfl rfl
theorem djnz (e : Byte) : Statement (.djnz e) :=
  encoding_of_many_bytes rfl rfl rfl
theorem jr (e : Byte) : Statement (.jr e) :=
  encoding_of_many_bytes rfl rfl rfl
theorem jrC (cc : JrCond) (e : Byte) : Statement (.jrC cc e) :=
  encoding_of_many_bytes rfl rfl rfl
theorem ldRS (r : Reg8) (r2 : Reg8) : Statement (.ldRS r r2) :=
  encoding_of_many_bytes rfl rfl rfl
theorem ldRMHl (r : Reg8) : Statement (.ldRMHl r) :=
  encoding_of_many_bytes rfl rfl rfl
theorem ldMHlS (r : Reg8) : Statement (.ldMHlS r) :=
  encoding_of_many_bytes rfl rfl rfl
theorem halt : Statement (.halt) :=
  encoding_of_many_bytes rfl rfl rfl
theorem addAR (r : Reg8) : Statement (.addAR r) :=
  encoding_of_many_bytes rfl rfl rfl
theorem addAMHl : Statement (.addAMHl) :=
  encoding_of_many_bytes rfl rfl rfl
theorem addAN (n : Byte) : Statement (.addAN n) :=
  encoding_of_many_bytes rfl rfl rfl
theorem adcAR (r : Reg8) : Statement (.adcAR r) :=
  encoding_of_many_bytes rfl rfl rfl
theorem adcAMHl : Statement (.adcAMHl) :=
  encoding_of_many_bytes rfl rfl rfl
theorem adcAN (n : Byte) : Statement (.adcAN n) :=
  encoding_of_many_bytes rfl rfl rfl
theorem subAR (r : Reg8) : Statement (.subAR r) :=
  encoding_of_many_bytes rfl rfl rfl
theorem subAMHl : Statement (.subAMHl) :=
  encoding_of_many_bytes rfl rfl rfl
theorem subAN (n : Byte) : Statement (.subAN n) :=
  encoding_of_many_bytes rfl rfl rfl
theorem sbcAR (r : Reg8) : Statement (.sbcAR r) :=
  encoding_of_many_bytes rfl rfl rfl
theorem sbcAMHl : Statement (.sbcAMHl) :=
  encoding_of_many_bytes rfl rfl rfl
theorem sbcAN (n : Byte) : Statement (.sbcAN n) :=
  encoding_of_many_bytes rfl rfl rfl
theorem andAR (r : Reg8) : Statement (.andAR r) :=
  encoding_of_many_bytes rfl rfl rfl
theorem andAMHl : Statement (.andAMHl) :=
  encoding_of_many_bytes rfl rfl rfl
theorem andAN (n : Byte) : Statement (.andAN n) :=
  encoding_of_many_bytes rfl rfl rfl
theorem xorAR (r : Reg8) : Statement (.xorAR r) :=
  encoding_of_many_bytes rfl rfl rfl
theorem xorAMHl : Statement (.xorAMHl) :=
  encoding_of_many_bytes rfl rfl rfl
theorem xorAN (n : Byte) : Statement (.xorAN n) :=
  encoding_of_many_bytes rfl rfl rfl
theorem orAR (r : Reg8) : Statement (.orAR r) :=
  encoding_of_many_bytes rfl rfl rfl
theorem orAMHl : Statement (.orAMHl) :=
  encoding_of_many_bytes rfl rfl rfl
theorem orAN (n : Byte) : Statement (.orAN n) :=
  encoding_of_many_bytes rfl rfl rfl
theorem cpAR (r : Reg8) : Statement (.cpAR r) :=
  encoding_of_many_bytes rfl rfl rfl
theorem cpAMHl : Statement (.cpAMHl) :=
  encoding_of_many_bytes rfl rfl rfl
theorem cpAN (n : Byte) : Statement (.cpAN n) :=
  encoding_of_many_bytes rfl rfl rfl
theorem retC (cc : Cond) : Statement (.retC cc) :=
  encoding_of_many_bytes rfl rfl rfl
theorem popQq (qq : StackPair) : Statement (.popQq qq) :=
  encoding_of_many_bytes rfl rfl rfl
theorem ret : Statement (.ret) :=
  encoding_of_many_bytes rfl rfl rfl
theorem exx : Statement (.exx) :=
  encoding_of_many_bytes rfl rfl rfl
theorem jpHl : Statement (.jpHl) :=
  encoding_of_many_bytes rfl rfl rfl
theorem ldSpHl : Statement (.ldSpHl) :=
  encoding_of_many_bytes rfl rfl rfl
theorem jpCNn (cc : Cond) (nn : Word) : Statement (.jpCNn cc nn) :=
  encoding_of_many_bytes rfl rfl rfl
theorem jpNn (nn : Word) : Statement (.jpNn nn) :=
  encoding_of_many_bytes rfl rfl rfl
theorem outNA (n : Byte) : Statement (.outNA n) :=
  encoding_of_many_bytes rfl rfl rfl
theorem inAN (n : Byte) : Statement (.inAN n) :=
  encoding_of_many_bytes rfl rfl rfl
theorem exMSpHl : Statement (.exMSpHl) :=
  encoding_of_many_bytes rfl rfl rfl
theorem exDeHl : Statement (.exDeHl) :=
  encoding_of_many_bytes rfl rfl rfl
theorem di : Statement (.di) :=
  encoding_of_many_bytes rfl rfl rfl
theorem ei : Statement (.ei) :=
  encoding_of_many_bytes rfl rfl rfl
theorem callCNn (cc : Cond) (nn : Word) : Statement (.callCNn cc nn) :=
  encoding_of_many_bytes rfl rfl rfl
theorem pushQq (qq : StackPair) : Statement (.pushQq qq) :=
  encoding_of_many_bytes rfl rfl rfl
theorem callNn (nn : Word) : Statement (.callNn nn) :=
  encoding_of_many_bytes rfl rfl rfl
theorem rst (t : BitVec 3) : Statement (.rst t) :=
  encoding_of_many_bytes rfl rfl rfl
theorem rlcR (r : Reg8) : Statement (.rlcR r) :=
  encoding_of_many_bytes rfl rfl rfl
theorem rlcMHl : Statement (.rlcMHl) :=
  encoding_of_many_bytes rfl rfl rfl
theorem rrcR (r : Reg8) : Statement (.rrcR r) :=
  encoding_of_many_bytes rfl rfl rfl
theorem rrcMHl : Statement (.rrcMHl) :=
  encoding_of_many_bytes rfl rfl rfl
theorem rlR (r : Reg8) : Statement (.rlR r) :=
  encoding_of_many_bytes rfl rfl rfl
theorem rlMHl : Statement (.rlMHl) :=
  encoding_of_many_bytes rfl rfl rfl
theorem rrR (r : Reg8) : Statement (.rrR r) :=
  encoding_of_many_bytes rfl rfl rfl
theorem rrMHl : Statement (.rrMHl) :=
  encoding_of_many_bytes rfl rfl rfl
theorem slaR (r : Reg8) : Statement (.slaR r) :=
  encoding_of_many_bytes rfl rfl rfl
theorem slaMHl : Statement (.slaMHl) :=
  encoding_of_many_bytes rfl rfl rfl
theorem sraR (r : Reg8) : Statement (.sraR r) :=
  encoding_of_many_bytes rfl rfl rfl
theorem sraMHl : Statement (.sraMHl) :=
  encoding_of_many_bytes rfl rfl rfl
theorem sllR (r : Reg8) : Statement (.sllR r) :=
  encoding_of_many_bytes rfl rfl rfl
theorem sllMHl : Statement (.sllMHl) :=
  encoding_of_many_bytes rfl rfl rfl
theorem srlR (r : Reg8) : Statement (.srlR r) :=
  encoding_of_many_bytes rfl rfl rfl
theorem srlMHl : Statement (.srlMHl) :=
  encoding_of_many_bytes rfl rfl rfl
theorem bitBR (bit : BitVec 3) (r : Reg8) : Statement (.bitBR bit r) :=
  encoding_of_many_bytes rfl rfl rfl
theorem bitBMHl (bit : BitVec 3) : Statement (.bitBMHl bit) :=
  encoding_of_many_bytes rfl rfl rfl
theorem resBR (bit : BitVec 3) (r : Reg8) : Statement (.resBR bit r) :=
  encoding_of_many_bytes rfl rfl rfl
theorem resBMHl (bit : BitVec 3) : Statement (.resBMHl bit) :=
  encoding_of_many_bytes rfl rfl rfl
theorem setBR (bit : BitVec 3) (r : Reg8) : Statement (.setBR bit r) :=
  encoding_of_many_bytes rfl rfl rfl
theorem setBMHl (bit : BitVec 3) : Statement (.setBMHl bit) :=
  encoding_of_many_bytes rfl rfl rfl
theorem inRC (r : Reg8) : Statement (.inRC r) :=
  encoding_of_many_bytes rfl rfl rfl
theorem inFC : Statement (.inFC) :=
  encoding_of_many_bytes rfl rfl rfl
theorem outCR (r : Reg8) : Statement (.outCR r) :=
  encoding_of_many_bytes rfl rfl rfl
theorem outC0 : Statement (.outC0) :=
  encoding_of_many_bytes rfl rfl rfl
theorem sbcHlRr (rr : RegPair) : Statement (.sbcHlRr rr) :=
  encoding_of_many_bytes rfl rfl rfl
theorem adcHlRr (rr : RegPair) : Statement (.adcHlRr rr) :=
  encoding_of_many_bytes rfl rfl rfl
theorem ldMNnRr (rr : RegPair) (nn : Word) : Statement (.ldMNnRr rr nn) :=
  encoding_of_many_bytes rfl rfl rfl
theorem ldRrMNn (rr : RegPair) (nn : Word) : Statement (.ldRrMNn rr nn) :=
  encoding_of_many_bytes rfl rfl rfl
theorem neg : Statement (.neg) :=
  encoding_of_many_bytes rfl rfl rfl
theorem negDup (y : BitVec 3) : Statement (.negDup y) :=
  encoding_of_many_bytes rfl rfl rfl
theorem retn : Statement (.retn) :=
  encoding_of_many_bytes rfl rfl rfl
theorem reti : Statement (.reti) :=
  encoding_of_many_bytes rfl rfl rfl
theorem retnDup (y : BitVec 3) : Statement (.retnDup y) :=
  encoding_of_many_bytes rfl rfl rfl
theorem im0 : Statement (.im0) :=
  encoding_of_many_bytes rfl rfl rfl
theorem im1 : Statement (.im1) :=
  encoding_of_many_bytes rfl rfl rfl
theorem im2 : Statement (.im2) :=
  encoding_of_many_bytes rfl rfl rfl
theorem imDup (y : BitVec 3) : Statement (.imDup y) :=
  encoding_of_many_bytes rfl rfl rfl
theorem ldIA : Statement (.ldIA) :=
  encoding_of_many_bytes rfl rfl rfl
theorem ldRA : Statement (.ldRA) :=
  encoding_of_many_bytes rfl rfl rfl
theorem ldAI : Statement (.ldAI) :=
  encoding_of_many_bytes rfl rfl rfl
theorem ldAR : Statement (.ldAR) :=
  encoding_of_many_bytes rfl rfl rfl
theorem rrd : Statement (.rrd) :=
  encoding_of_many_bytes rfl rfl rfl
theorem rld : Statement (.rld) :=
  encoding_of_many_bytes rfl rfl rfl
theorem nopEd7 (y : Bool) : Statement (.nopEd7 y) :=
  encoding_of_many_bytes rfl rfl rfl
theorem ldi : Statement (.ldi) :=
  encoding_of_many_bytes rfl rfl rfl
theorem ldd : Statement (.ldd) :=
  encoding_of_many_bytes rfl rfl rfl
theorem ldir : Statement (.ldir) :=
  encoding_of_many_bytes rfl rfl rfl
theorem lddr : Statement (.lddr) :=
  encoding_of_many_bytes rfl rfl rfl
theorem cpi : Statement (.cpi) :=
  encoding_of_many_bytes rfl rfl rfl
theorem cpd : Statement (.cpd) :=
  encoding_of_many_bytes rfl rfl rfl
theorem cpir : Statement (.cpir) :=
  encoding_of_many_bytes rfl rfl rfl
theorem cpdr : Statement (.cpdr) :=
  encoding_of_many_bytes rfl rfl rfl
theorem ini : Statement (.ini) :=
  encoding_of_many_bytes rfl rfl rfl
theorem ind : Statement (.ind) :=
  encoding_of_many_bytes rfl rfl rfl
theorem inir : Statement (.inir) :=
  encoding_of_many_bytes rfl rfl rfl
theorem indr : Statement (.indr) :=
  encoding_of_many_bytes rfl rfl rfl
theorem outi : Statement (.outi) :=
  encoding_of_many_bytes rfl rfl rfl
theorem outd : Statement (.outd) :=
  encoding_of_many_bytes rfl rfl rfl
theorem otir : Statement (.otir) :=
  encoding_of_many_bytes rfl rfl rfl
theorem otdr : Statement (.otdr) :=
  encoding_of_many_bytes rfl rfl rfl
theorem noni (op : Byte) : Statement (.noni op) :=
  encoding_of_many_bytes rfl rfl rfl
theorem ldIiNn (i : Idx) (nn : Word) : Statement (.ldIiNn i nn) :=
  encoding_of_many_bytes rfl rfl rfl
theorem addIiRr (i : Idx) (pp : IdxPair) : Statement (.addIiRr i pp) :=
  encoding_of_many_bytes rfl rfl rfl
theorem ldMNnIi (i : Idx) (nn : Word) : Statement (.ldMNnIi i nn) :=
  encoding_of_many_bytes rfl rfl rfl
theorem ldIiMNn (i : Idx) (nn : Word) : Statement (.ldIiMNn i nn) :=
  encoding_of_many_bytes rfl rfl rfl
theorem incIi (i : Idx) : Statement (.incIi i) :=
  encoding_of_many_bytes rfl rfl rfl
theorem decIi (i : Idx) : Statement (.decIi i) :=
  encoding_of_many_bytes rfl rfl rfl
theorem incIhl (i : Idx) (h : Half) : Statement (.incIhl i h) :=
  encoding_of_many_bytes rfl rfl rfl
theorem decIhl (i : Idx) (h : Half) : Statement (.decIhl i h) :=
  encoding_of_many_bytes rfl rfl rfl
theorem ldIhlN (i : Idx) (h : Half) (n : Byte) : Statement (.ldIhlN i h n) :=
  encoding_of_many_bytes rfl rfl rfl
theorem incMIx (i : Idx) (d : Byte) : Statement (.incMIx i d) :=
  encoding_of_many_bytes rfl rfl rfl
theorem decMIx (i : Idx) (d : Byte) : Statement (.decMIx i d) :=
  encoding_of_many_bytes rfl rfl rfl
theorem ldMIxN (i : Idx) (d : Byte) (n : Byte) : Statement (.ldMIxN i d n) :=
  encoding_of_many_bytes rfl rfl rfl
theorem ldRMIx (i : Idx) (r : Reg8) (d : Byte) : Statement (.ldRMIx i r d) :=
  encoding_of_many_bytes rfl rfl rfl
theorem ldMIxS (i : Idx) (r : Reg8) (d : Byte) : Statement (.ldMIxS i r d) :=
  encoding_of_many_bytes rfl rfl rfl
theorem ldHalves (i : Idx) (r : HalfReg) (r2 : HalfReg) : Statement (.ldHalves i r r2) :=
  encoding_of_many_bytes rfl rfl rfl
theorem addAIhl (i : Idx) (h : Half) : Statement (.addAIhl i h) :=
  encoding_of_many_bytes rfl rfl rfl
theorem addAMIx (i : Idx) (d : Byte) : Statement (.addAMIx i d) :=
  encoding_of_many_bytes rfl rfl rfl
theorem adcAIhl (i : Idx) (h : Half) : Statement (.adcAIhl i h) :=
  encoding_of_many_bytes rfl rfl rfl
theorem adcAMIx (i : Idx) (d : Byte) : Statement (.adcAMIx i d) :=
  encoding_of_many_bytes rfl rfl rfl
theorem subAIhl (i : Idx) (h : Half) : Statement (.subAIhl i h) :=
  encoding_of_many_bytes rfl rfl rfl
theorem subAMIx (i : Idx) (d : Byte) : Statement (.subAMIx i d) :=
  encoding_of_many_bytes rfl rfl rfl
theorem sbcAIhl (i : Idx) (h : Half) : Statement (.sbcAIhl i h) :=
  encoding_of_many_bytes rfl rfl rfl
theorem sbcAMIx (i : Idx) (d : Byte) : Statement (.sbcAMIx i d) :=
  encoding_of_many_bytes rfl rfl rfl
theorem andAIhl (i : Idx) (h : Half) : Statement (.andAIhl i h) :=
  encoding_of_many_bytes rfl rfl rfl
theorem andAMIx (i : Idx) (d : Byte) : Statement (.andAMIx i d) :=
  encoding_of_many_bytes rfl rfl rfl
theorem xorAIhl (i : Idx) (h : Half) : Statement (.xorAIhl i h) :=
  encoding_of_many_bytes rfl rfl rfl
theorem xorAMIx (i : Idx) (d : Byte) : Statement (.xorAMIx i d) :=
  encoding_of_many_bytes rfl rfl rfl
theorem orAIhl (i : Idx) (h : Half) : Statement (.orAIhl i h) :=
  encoding_of_many_bytes rfl rfl rfl
theorem orAMIx (i : Idx) (d : Byte) : Statement (.orAMIx i d) :=
  encoding_of_many_bytes rfl rfl rfl
theorem cpAIhl (i : Idx) (h : Half) : Statement (.cpAIhl i h) :=
  encoding_of_many_bytes rfl rfl rfl
theorem cpAMIx (i : Idx) (d : Byte) : Statement (.cpAMIx i d) :=
  encoding_of_many_bytes rfl rfl rfl
theorem popIi (i : Idx) : Statement (.popIi i) :=
  encoding_of_many_bytes rfl rfl rfl
theorem exMSpIi (i : Idx) : Statement (.exMSpIi i) :=
  encoding_of_many_bytes rfl rfl rfl
theorem pushIi (i : Idx) : Statement (.pushIi i) :=
  encoding_of_many_bytes rfl rfl rfl
theorem jpIi (i : Idx) : Statement (.jpIi i) :=
  encoding_of_many_bytes rfl rfl rfl
theorem ldSpIi (i : Idx) : Statement (.ldSpIi i) :=
  encoding_of_many_bytes rfl rfl rfl
theorem ignoredPrefix (i : Idx) : Statement (.ignoredPrefix i) :=
  encoding_of_many_bytes rfl rfl rfl
theorem rlcMIx (i : Idx) (d : Byte) : Statement (.rlcMIx i d) :=
  encoding_of_many_bytes rfl rfl rfl
theorem rlcMIxCopy (i : Idx) (d : Byte) (r : Reg8) : Statement (.rlcMIxCopy i d r) :=
  encoding_of_many_bytes rfl rfl rfl
theorem rrcMIx (i : Idx) (d : Byte) : Statement (.rrcMIx i d) :=
  encoding_of_many_bytes rfl rfl rfl
theorem rrcMIxCopy (i : Idx) (d : Byte) (r : Reg8) : Statement (.rrcMIxCopy i d r) :=
  encoding_of_many_bytes rfl rfl rfl
theorem rlMIx (i : Idx) (d : Byte) : Statement (.rlMIx i d) :=
  encoding_of_many_bytes rfl rfl rfl
theorem rlMIxCopy (i : Idx) (d : Byte) (r : Reg8) : Statement (.rlMIxCopy i d r) :=
  encoding_of_many_bytes rfl rfl rfl
theorem rrMIx (i : Idx) (d : Byte) : Statement (.rrMIx i d) :=
  encoding_of_many_bytes rfl rfl rfl
theorem rrMIxCopy (i : Idx) (d : Byte) (r : Reg8) : Statement (.rrMIxCopy i d r) :=
  encoding_of_many_bytes rfl rfl rfl
theorem slaMIx (i : Idx) (d : Byte) : Statement (.slaMIx i d) :=
  encoding_of_many_bytes rfl rfl rfl
theorem slaMIxCopy (i : Idx) (d : Byte) (r : Reg8) : Statement (.slaMIxCopy i d r) :=
  encoding_of_many_bytes rfl rfl rfl
theorem sraMIx (i : Idx) (d : Byte) : Statement (.sraMIx i d) :=
  encoding_of_many_bytes rfl rfl rfl
theorem sraMIxCopy (i : Idx) (d : Byte) (r : Reg8) : Statement (.sraMIxCopy i d r) :=
  encoding_of_many_bytes rfl rfl rfl
theorem sllMIx (i : Idx) (d : Byte) : Statement (.sllMIx i d) :=
  encoding_of_many_bytes rfl rfl rfl
theorem sllMIxCopy (i : Idx) (d : Byte) (r : Reg8) : Statement (.sllMIxCopy i d r) :=
  encoding_of_many_bytes rfl rfl rfl
theorem srlMIx (i : Idx) (d : Byte) : Statement (.srlMIx i d) :=
  encoding_of_many_bytes rfl rfl rfl
theorem srlMIxCopy (i : Idx) (d : Byte) (r : Reg8) : Statement (.srlMIxCopy i d r) :=
  encoding_of_many_bytes rfl rfl rfl
theorem bitBMIx (i : Idx) (bit : BitVec 3) (d : Byte) : Statement (.bitBMIx i bit d) :=
  encoding_of_many_bytes rfl rfl rfl
theorem bitBMIxDup (i : Idx) (bit : BitVec 3) (d : Byte) (r : Reg8) : Statement (.bitBMIxDup i bit d r) :=
  encoding_of_many_bytes rfl rfl rfl
theorem resBMIx (i : Idx) (bit : BitVec 3) (d : Byte) : Statement (.resBMIx i bit d) :=
  encoding_of_many_bytes rfl rfl rfl
theorem resBMIxCopy (i : Idx) (bit : BitVec 3) (d : Byte) (r : Reg8) : Statement (.resBMIxCopy i bit d r) :=
  encoding_of_many_bytes rfl rfl rfl
theorem setBMIx (i : Idx) (bit : BitVec 3) (d : Byte) : Statement (.setBMIx i bit d) :=
  encoding_of_many_bytes rfl rfl rfl
theorem setBMIxCopy (i : Idx) (bit : BitVec 3) (d : Byte) (r : Reg8) : Statement (.setBMIxCopy i bit d r) :=
  encoding_of_many_bytes rfl rfl rfl
theorem wdRestore (h : Bool) (v : Bool) (r : BitVec 2) : Statement (.wdRestore h v r) :=
  encoding_of_one_byte rfl
theorem wdSeek (h : Bool) (v : Bool) (r : BitVec 2) : Statement (.wdSeek h v r) :=
  encoding_of_one_byte rfl
theorem wdStep (u : Bool) (h : Bool) (v : Bool) (r : BitVec 2) : Statement (.wdStep u h v r) :=
  encoding_of_one_byte rfl
theorem wdStepIn (u : Bool) (h : Bool) (v : Bool) (r : BitVec 2) : Statement (.wdStepIn u h v r) :=
  encoding_of_one_byte rfl
theorem wdStepOut (u : Bool) (h : Bool) (v : Bool) (r : BitVec 2) : Statement (.wdStepOut u h v r) :=
  encoding_of_one_byte rfl
theorem wdReadSector (m : Bool) (side : Bool) (e : Bool) (c : Bool) : Statement (.wdReadSector m side e c) :=
  encoding_of_one_byte rfl
theorem wdWriteSector (m : Bool) (side : Bool) (e : Bool) (c : Bool) (a0 : Bool) : Statement (.wdWriteSector m side e c a0) :=
  encoding_of_one_byte rfl
theorem wdReadAddress (e : Bool) : Statement (.wdReadAddress e) :=
  encoding_of_one_byte rfl
theorem wdReadTrack (e : Bool) : Statement (.wdReadTrack e) :=
  encoding_of_one_byte rfl
theorem wdWriteTrack (e : Bool) : Statement (.wdWriteTrack e) :=
  encoding_of_one_byte rfl
theorem wdForceInterrupt (cond : BitVec 4) : Statement (.wdForceInterrupt cond) :=
  encoding_of_one_byte rfl

end Sys2Proof.Laws.Encoding
end

