-- ==== Sys2Proof/Laws/Raster.lean ====
section
/-! SUPPORT. What painting does to the picture: one pixel takes its colour, every other keeps its own, and
the drawn picture underneath stays. -/

namespace Sys2Proof.Machine

@[simp] theorem paintPixel_drawn (r : Raster) (fb : Framebuffer) (x y : Nat) (v : BitVec 4) :
    (paintPixel r fb x y v).drawn = fb.drawn := rfl

/-- The pixels listed as painted stay in canonical form. -/
theorem paintPixel_wf {fb : Framebuffer} (h : cellsWf none fb.painted = true) (r : Raster) (x y : Nat)
    (v : BitVec 4) : cellsWf none (paintPixel r fb x y v).painted = true :=
  cellsFrom_cellsSet none fb.painted h _ _ (Nat.zero_le _)

/-- The painted pixel takes its colour and no other pixel changes. -/
theorem pixel_paintPixel {fb : Framebuffer} (h : cellsWf none fb.painted = true) (r : Raster) (x y : Nat)
    (v : BitVec 4) (i : Nat) :
    (paintPixel r fb x y v).pixel i = if i = y * r.geo.width + x then v else fb.pixel i := by
  simp only [Framebuffer.pixel, paintPixel, cellsGet_cellsSet none fb.painted h]
  split <;> simp

/-- A pixel that nothing has painted has its colour in the drawn picture. -/
theorem pixel_of_unpainted {fb : Framebuffer} {i : Nat} (h : cellsGet none fb.painted i = none) :
    fb.pixel i = Config.drawPixel fb.drawn i := by simp [Framebuffer.pixel, h]

end Sys2Proof.Machine
end

