-- ==== Sys2Proof/Laws/Wd.lean ====
section
/-! SUPPORT. What a byte step of the WD1793 does, said once: the index bookkeeping, then the micro-state's
action, then the byte shifted into the mark register (47 R632). -/

namespace Sys2Proof.Machine

/-! ## The controller after the index bookkeeping -/

theorem indexPulse_iff (k : Nat) (d : Disk) :
    d.indexPulse k = true ↔ d.ready = true ∧ k % 6250 = 0 := by
  simp [Disk.indexPulse, diskPos, trackLen]

theorem indexMark_eq (w : Wd) :
    w.indexMark =
      { w with
        revCount := w.revCount + 1,
        idleRevs := w.idleRevs + (if w.state = .idle then 1 else 0),
        headLoaded := w.headLoaded && decide (w.state = .idle → w.idleRevs + 1 < 15),
        intrq := w.intrq || w.intCond.getLsbD 2 } := by
  unfold Wd.indexMark
  by_cases h : w.state = .idle <;> simp [h]

theorem indexed_eq (k : Nat) (d : Disk) :
    indexed k d = if d.indexPulse k then d.wd.indexMark else d.wd := by
  simp only [indexed, indexMark_eq, indexPulse_iff]

@[simp] theorem indexed_state (k : Nat) (d : Disk) : (indexed k d).state = d.wd.state := by
  unfold indexed; split <;> rfl
@[simp] theorem indexed_heldInReset (k : Nat) (d : Disk) :
    (indexed k d).heldInReset = d.wd.heldInReset := by
  unfold indexed; split <;> rfl
@[simp] theorem indexed_markShift (k : Nat) (d : Disk) : (indexed k d).markShift = d.wd.markShift := by
  unfold indexed; split <;> rfl
@[simp] theorem indexed_lastStep (k : Nat) (d : Disk) : (indexed k d).lastStep = d.wd.lastStep := by
  unfold indexed; split <;> rfl
@[simp] theorem indexed_unit (k : Nat) (d : Disk) : (indexed k d).unit = d.wd.unit := by
  unfold indexed; split <;> rfl
@[simp] theorem indexed_side (k : Nat) (d : Disk) : (indexed k d).side = d.wd.side := by
  unfold indexed; split <;> rfl

/-! ## A controller of the same unit and side sees the same drive -/

section
variable {d : Disk} {w : Wd}

theorem drive_of_unit (h : w.unit = d.wd.unit) : ({ d with wd := w } : Disk).drive = d.drive := by
  simp only [Disk.drive, h]

theorem ready_of_unit (h : w.unit = d.wd.unit) : ({ d with wd := w } : Disk).ready = d.ready := by
  simp only [Disk.ready, drive_of_unit h]

theorem cyl_of_unit (h : w.unit = d.wd.unit) : ({ d with wd := w } : Disk).cyl = d.cyl := by
  simp only [Disk.cyl, drive_of_unit h]

theorem formatted_of_unit (h : w.unit = d.wd.unit) (hs : w.side = d.wd.side) :
    ({ d with wd := w } : Disk).formatted = d.formatted := by
  simp only [Disk.formatted, ready_of_unit h, cyl_of_unit h, drive_of_unit h, hs]

end

/-! ## The byte step -/

theorem shiftMark_eq (m : BitVec 24) (b : Byte) :
    shiftMark m b = BitVec.ofNat 24 (m.toNat * 256 + b.toNat) := by
  unfold shiftMark
  apply BitVec.eq_of_toNat_eq
  rw [BitVec.toNat_append, ← Nat.shiftLeft_add_eq_or_of_lt b.isLt, Nat.shiftLeft_eq]
  simp
  omega

/-- What a byte step does: the bookkeeping alone while held in reset, else the action after it. -/
theorem byteStep_eq (c : Cfg) (k : Nat) (d : Disk) :
    d.byteStep c k =
      if d.wd.heldInReset then { d with wd := indexed k d }
      else
        (({ d with wd := indexed k d } : Disk).act c (d.indexPulse k) (d.trackByteAt (k % 6250))).setWd
          fun w => { w with markShift := shiftMark w.markShift (d.trackByteAt (k % 6250)) } := by
  have : (if d.indexPulse k then d.setWd Wd.indexMark else d) = { d with wd := indexed k d } := by
    rw [indexed_eq]; split <;> rfl
  simp only [Disk.byteStep, this, indexed_heldInReset]
  rfl

/-- A byte step of a running controller, from what its micro-state's action answers. -/
theorem byteStepGives_of_act {c : Cfg} {k : Nat} {d : Disk} {drives : Vector Drive 4} {w : Wd}
    (held : d.wd.heldInReset = false)
    (act : ({ d with wd := indexed k d } : Disk).act c (d.indexPulse k) (d.trackByteAt (k % 6250))
      = { drives := drives, wd := w })
    (mark : w.markShift = d.wd.markShift) : byteStepGives c k d drives w := by
  simp [byteStepGives, byteStep_eq, held, act, Disk.setWd, shiftMark_eq, mark]

/-! ## Pieces of the micro-states -/

theorem storeId_eq (w : Wd) (b : Byte) :
    w.storeId b =
      { w with idBuf := w.idBuf.setIfInBounds w.byteIndex b, byteIndex := w.byteIndex + 1 } := by
  unfold Wd.storeId
  have : (if h : w.byteIndex < 6 then w.idBuf.set w.byteIndex b else w.idBuf)
      = w.idBuf.setIfInBounds w.byteIndex b := by
    apply Vector.ext
    intro i hi
    split
    · simp [Vector.getElem_set, Vector.getElem_setIfInBounds]
    · rw [Vector.getElem_setIfInBounds, if_neg (by omega)]
  rw [this]

theorem searchFail_eq (w : Wd) :
    w.searchFail = { w with statusReg := w.statusReg ||| 0x10 }.finish := rfl

theorem verifyOrEnd_eq (c : Cfg) (w : Wd) :
    w.verifyOrEnd c =
      if w.cmdReg.getLsbD 2 = true then
        { w with headLoaded := true, delay := if c.fastMode then 0 else msToSteps c 15, state := .t1Settle }
      else w.finish := by
  unfold Wd.verifyOrEnd verifySettle
  cases w.cmdReg.getLsbD 2 <;> simp

theorem isSeekOrRestore_eq (b : Byte) : isSeekOrRestore b = decide (b.toNat < 0x20) := by
  unfold isSeekOrRestore
  rw [Bool.eq_iff_iff]
  simp
  omega

theorem isRestore_eq (b : Byte) : isRestore b = decide (b.toNat < 0x10) := by
  unfold isRestore
  rw [Bool.eq_iff_iff]
  simp

theorem writeSectorByte_drives (d : Disk) (r i : Nat) (v : Byte) :
    (d.writeSectorByte r i v).drives = sectorWritten r i v d := by
  have key : (d.formatted && d.drive.kind == .trd && decide (1 ≤ r) && decide (r ≤ 16)) = true
      ↔ d.formatted = true ∧ d.drive.kind = .trd ∧ 1 ≤ r ∧ r ≤ 16 := by
    simp [and_assoc]
  have place : trdOffset d.drive.sides d.cyl d.wd.side r + i
      = ((d.drive.headTrack * d.drive.sides + d.wd.side) * 16 + (r - 1)) * 256 + i := rfl
  unfold Disk.writeSectorByte sectorWritten
  dsimp only
  by_cases h : d.formatted = true ∧ d.drive.kind = .trd ∧ 1 ≤ r ∧ r ≤ 16
  · rw [if_pos (key.mpr h), place, Image.write]
    split
    · rename_i hsize
      rw [if_pos ⟨h.1, h.2.1, h.2.2.1, h.2.2.2, hsize⟩]
      rfl
    · rename_i hsize
      rw [if_neg (fun g => hsize g.2.2.2.2)]
      exact Vector.set_getElem_self _
  · rw [if_neg (fun g => h (key.mp g)), if_neg (fun g => h ⟨g.1, g.2.1, g.2.2.1, g.2.2.2.1⟩)]

end Sys2Proof.Machine
end

