-- ==== Sys2Proof/Tests/Slice0.lean ====
section
/-! SUPPORT. The model's own tests. Every expected value is the spec's: an encoding of file 30, the example
of an instruction's own rule, or a vector of 95_test_vectors.md (sections L1 and L2). After them, one
witness for every statement that has hypotheses. -/

namespace Sys2Proof.Tests

open Sys2Proof.Machine

/-! ## Helpers -/

/-- What the decoder reads from a list of bytes; none where it refuses. -/
def decoded (bs : List Byte) : Option (Instr × List Byte) :=
  match decode bs with
  | .ok r => some r
  | .error _ => none

/-- A Spec48 with the given Z80, code and stack in uncontended RAM, at frame time 1000. -/
def base (f : Cpu → Cpu) : State :=
  { State.reset with
    cpu := f { Cpu.reset with pc := 0x8000, sp := 0xFF00 },
    clock := { tstates := 1000, globalTstates := 1000, absTime := 1000, frameCounter := 0 } }

/-- Bytes stored at an address. -/
def poke (a : Word) (bs : List Byte) (s : State) : State :=
  match bs with
  | [] => s
  | b :: t => poke (a + 1) t (s.writeByte a b)

/-- The state an instruction leaves; the state before where it answers none. -/
def after (i : Instr) (s : State) : State :=
  match exec i s with
  | .next t => t
  | _ => s

/-- The state a step leaves; the state before where it answers none. -/
def stepped (s : State) : State :=
  match step s with
  | .next t => t
  | _ => s

/-- A state on another machine. -/
def onArch (a : Architecture) (s : State) : State := { s with cfg := { s.cfg with arch := a } }

/-- A state at another frame time. -/
def atTime (n : Nat) (s : State) : State := { s with clock := { s.clock with tstates := n } }

/-- A state under UNDOC_OPCODES = refuse. -/
def refusing (s : State) : State := { s with cfg := { s.cfg with undoc := .refuse } }

/-! ## Well-formed terms: an ill-formed term for each check -/

theorem test_wf_negDup : (Instr.negDup 0).wf = false ∧ (Instr.negDup 1).wf = true := by decide
theorem test_wf_retnDup :
    (Instr.retnDup 0).wf = false ∧ (Instr.retnDup 1).wf = false ∧ (Instr.retnDup 2).wf = true := by decide
theorem test_wf_imDup :
    (Instr.imDup 0).wf = false ∧ (Instr.imDup 2).wf = false ∧ (Instr.imDup 3).wf = false
      ∧ (Instr.imDup 1).wf = true := by decide
theorem test_wf_noni :
    (Instr.noni 0xB0).wf = false ∧ (Instr.noni 0x44).wf = false ∧ (Instr.noni 0x00).wf = true
      ∧ (Instr.noni 0xA4).wf = true ∧ (Instr.noni 0xFF).wf = true := by decide
theorem test_wf_ldHalves :
    (Instr.ldHalves .ix .b .c).wf = false ∧ (Instr.ldHalves .ix .b .il).wf = true := by decide

/-! ## Decoding (30 R180 to R199): words written out from the encodings -/

-- x = 00: `LD rr,nn` 00pp0001, `INC r` 00rrr100, `LD r,n` 00rrr110, `JR c,e` 001cc000
theorem test_decode_x0 :
    decoded [0x21, 0x34, 0x12, 0xAA] = some (.ldRrNn .hl 0x1234, [0xAA])
      ∧ decoded [0x2C] = some (.incR .l, []) ∧ decoded [0x3E, 0x80] = some (.ldRN .a 0x80, [])
      ∧ decoded [0x34] = some (.incMHl, []) ∧ decoded [0x20, 0xFE] = some (.jrC .nz 0xFE, [])
      ∧ decoded [0x08] = some (.exAfAf, []) ∧ decoded [0x10, 0xFE] = some (.djnz 0xFE, [])
      ∧ decoded [0x2A, 0x00, 0x90] = some (.ldHlMNn 0x9000, []) ∧ decoded [0x1B] = some (.decRr .de, []) := by
  decide
-- x = 01: `LD r,s` 01rrrsss, HALT 01110110
theorem test_decode_x1 :
    decoded [0x41] = some (.ldRS .b .c, []) ∧ decoded [0x76] = some (.halt, [])
      ∧ decoded [0x6E] = some (.ldRMHl .l, []) ∧ decoded [0x77] = some (.ldMHlS .a, []) := by decide
-- x = 10: the ALU group 10aaarrr in the order ADD ADC SUB SBC AND XOR OR CP
theorem test_decode_x2 :
    decoded [0x80] = some (.addAR .b, []) ∧ decoded [0x8E] = some (.adcAMHl, [])
      ∧ decoded [0x97] = some (.subAR .a, []) ∧ decoded [0x9B] = some (.sbcAR .e, [])
      ∧ decoded [0xA6] = some (.andAMHl, []) ∧ decoded [0xAF] = some (.xorAR .a, [])
      ∧ decoded [0xB1] = some (.orAR .c, []) ∧ decoded [0xBD] = some (.cpAR .l, []) := by decide
-- x = 11: `RET c`, `POP qq`, `JP c,nn`, `CALL c,nn`, `PUSH qq`, ALU n, `RST t`
theorem test_decode_x3 :
    decoded [0xE8] = some (.retC .pe, []) ∧ decoded [0xF1] = some (.popQq .af, [])
      ∧ decoded [0xFA, 0x01, 0x02] = some (.jpCNn .m 0x0201, [])
      ∧ decoded [0xC4, 0x00, 0x90] = some (.callCNn .nz 0x9000, [])
      ∧ decoded [0xE5] = some (.pushQq .hl, []) ∧ decoded [0xDE, 0x07] = some (.sbcAN 0x07, [])
      ∧ decoded [0xFF] = some (.rst 7, []) ∧ decoded [0xD3, 0xFE] = some (.outNA 0xFE, [])
      ∧ decoded [0xEB] = some (.exDeHl, []) ∧ decoded [0xE9] = some (.jpHl, []) := by decide
-- CB: rotates 00ooorrr, BIT 01bbbrrr, RES 10bbbrrr, SET 11bbbrrr
theorem test_decode_cb :
    decoded [0xCB, 0x30] = some (.sllR .b, []) ∧ decoded [0xCB, 0x0E] = some (.rrcMHl, [])
      ∧ decoded [0xCB, 0x7F] = some (.bitBR 7 .a, []) ∧ decoded [0xCB, 0x86] = some (.resBMHl 0, [])
      ∧ decoded [0xCB, 0xDB] = some (.setBR 3 .e, []) := by decide
-- ED: the group 01yyyzzz, the block group 101yyzzz, and the undefined opcodes
theorem test_decode_ed :
    decoded [0xED, 0x70] = some (.inFC, []) ∧ decoded [0xED, 0x71] = some (.outC0, [])
      ∧ decoded [0xED, 0x7A] = some (.adcHlRr .sp, [])
      ∧ decoded [0xED, 0x43, 0x00, 0x90] = some (.ldMNnRr .bc 0x9000, [])
      ∧ decoded [0xED, 0x4D] = some (.reti, []) := by decide
theorem test_decode_ed_more :
    decoded [0xED, 0x55] = some (.retnDup 2, [])
      ∧ decoded [0xED, 0x5E] = some (.im2, []) ∧ decoded [0xED, 0x6E] = some (.imDup 5, [])
      ∧ decoded [0xED, 0x57] = some (.ldAI, []) ∧ decoded [0xED, 0x67] = some (.rrd, [])
      ∧ decoded [0xED, 0xA1] = some (.cpi, []) ∧ decoded [0xED, 0xBB] = some (.otdr, [])
      ∧ decoded [0xED, 0x77] = some (.nopEd7 false, []) ∧ decoded [0xED, 0x7F] = some (.nopEd7 true, [])
      ∧ decoded [0xED, 0x00] = some (.noni 0x00, []) := by decide
-- DD and FD: HL becomes an index register, H and L its halves, (HL) takes a displacement
theorem test_decode_dd :
    decoded [0xDD, 0x21, 0x00, 0x80] = some (.ldIiNn .ix 0x8000, [])
      ∧ decoded [0xFD, 0x39] = some (.addIiRr .iy .sp, [])
      ∧ decoded [0xDD, 0x7D] = some (.ldHalves .ix .a .il, [])
      ∧ decoded [0xDD, 0x66, 0x01] = some (.ldRMIx .ix .h 0x01, [])
      ∧ decoded [0xFD, 0x70, 0x05] = some (.ldMIxS .iy .b 0x05, [])
      ∧ decoded [0xDD, 0x29] = some (.addIiRr .ix .ii, []) := by decide
theorem test_decode_dd_more :
    decoded [0xDD, 0x36, 0x7F, 0x5A] = some (.ldMIxN .ix 0x7F 0x5A, [])
      ∧ decoded [0xFD, 0x9E, 0x80] = some (.sbcAMIx .iy 0x80, [])
      ∧ decoded [0xDD, 0xAC] = some (.xorAIhl .ix .ih, [])
      ∧ decoded [0xFD, 0xE3] = some (.exMSpIi .iy, []) ∧ decoded [0xDD, 0xE9] = some (.jpIi .ix, [])
      ∧ decoded [0xDD, 0x00] = some (.ignoredPrefix .ix, [0x00])
      ∧ decoded [0xDD, 0xFD, 0x21] = some (.ignoredPrefix .ix, [0xFD, 0x21])
      ∧ decoded [0xFD, 0x76] = some (.ignoredPrefix .iy, [0x76]) := by decide
-- DD CB d op: the displacement comes before the last opcode byte
theorem test_decode_xcb :
    decoded [0xFD, 0xCB, 0xFF, 0x06] = some (.rlcMIx .iy 0xFF, [])
      ∧ decoded [0xDD, 0xCB, 0x00, 0xC0] = some (.setBMIxCopy .ix 0 0x00 .b, [])
      ∧ decoded [0xDD, 0xCB, 0x05, 0x7E] = some (.bitBMIx .ix 7 0x05, [])
      ∧ decoded [0xDD, 0xCB, 0x05, 0x47] = some (.bitBMIxDup .ix 0 0x05 .a, [])
      ∧ decoded [0xFD, 0xCB, 0x02, 0x36] = some (.sllMIx .iy 0x02, []) := by decide
-- The WD1793 command byte (30 R205)
theorem test_decode_wd :
    decodeWdCommand 0x0B = .wdRestore true false 3 ∧ decodeWdCommand 0x1C = .wdSeek true true 0
      ∧ decodeWdCommand 0x30 = .wdStep true false false 0
      ∧ decodeWdCommand 0x71 = .wdStepOut true false false 1
      ∧ decodeWdCommand 0x9E = .wdReadSector true true true true
      ∧ decodeWdCommand 0xA1 = .wdWriteSector false false false false true
      ∧ decodeWdCommand 0xC4 = .wdReadAddress true ∧ decodeWdCommand 0xE0 = .wdReadTrack false
      ∧ decodeWdCommand 0xF4 = .wdWriteTrack true ∧ decodeWdCommand 0xD8 = .wdForceInterrupt 8 := by decide
-- The 86 opcodes DD and FD affect (30 R195), as the rule lists them
theorem test_dd_affected :
    (List.range 256).filter (fun n => ddAffected (BitVec.ofNat 8 n)) =
      [0x09, 0x19, 0x21, 0x22, 0x23, 0x24, 0x25, 0x26, 0x29, 0x2A, 0x2B, 0x2C, 0x2D, 0x2E, 0x34, 0x35,
        0x36, 0x39, 0x44, 0x45, 0x46, 0x4C, 0x4D, 0x4E, 0x54, 0x55, 0x56, 0x5C, 0x5D, 0x5E]
      ++ [0x60, 0x61, 0x62, 0x63, 0x64, 0x65, 0x66, 0x67, 0x68, 0x69, 0x6A, 0x6B, 0x6C, 0x6D, 0x6E,
        0x6F, 0x70, 0x71, 0x72, 0x73, 0x74, 0x75, 0x77, 0x7C, 0x7D, 0x7E]
      ++ [0x84, 0x85, 0x86, 0x8C, 0x8D, 0x8E, 0x94, 0x95, 0x96, 0x9C, 0x9D, 0x9E, 0xA4, 0xA5, 0xA6,
        0xAC, 0xAD, 0xAE, 0xB4, 0xB5, 0xB6, 0xBC, 0xBD, 0xBE, 0xCB, 0xE1, 0xE3, 0xE5, 0xE9, 0xF9] := by
  decide
-- An opcode-table word is decoded with its first byte in bits 7 to 0 (log 13)
theorem test_table_word :
    decodeTableWord 16 0x52ED = some (.sbcHlRr .de) ∧ decodeTableWord 8 0x21 = some (.ldRrNn .hl 0)
      ∧ decodeTableWord 32 0xC000CBDD = some (.setBMIxCopy .ix 0 0x00 .b) := by decide

/-! ## Loads (40) -/

-- R230
theorem test_ld_r_s :
    (after (.ldRS .a .b) (base fun c => { c with b := 0x5A })).cpu.a = 0x5A
      ∧ (after (.ldRS .a .b) (base fun c => { c with b := 0x5A })).clock.tstates = 1004 := by decide
-- R233, L2.7: `LD A,(IX-128)`
theorem test_ld_r_ix :
    let t := after (.ldRMIx .ix .a 0x80) (poke 0x8F80 [0x77] (base fun c => { c with ix := 0x9000 }))
    (t.cpu.a, t.cpu.r, t.cpu.pc, t.clock.tstates) = (0x77, 2, 0x8003, 1019) := by decide
-- L2.7: `LD H,(IX+1)` loads the real H
theorem test_ld_h_ix :
    let t := after (.ldRMIx .ix .h 0x01) (poke 0x9001 [0x42] (base fun c => { c with ix := 0x9000 }))
    (t.cpu.h, t.cpu.ix) = (0x42, 0x9000) := by decide
-- L2.7: `LD (IX+127),0x5A`
theorem test_ld_ix_n :
    let t := after (.ldMIxN .ix 0x7F 0x5A) (base fun c => { c with ix := 0x9000 })
    (t.readByte 0x907F, t.clock.tstates) = (0x5A, 1019) := by decide
-- L2.7: a store to ROM is discarded and takes its time
theorem test_store_to_rom :
    let t := after (.ldMNnA 0x1000) (base fun c => { c with a := 0x99 })
    (t.readByte 0x1000, t.clock.tstates) = (0x00, 1013) := by decide
-- R244 and L2.7
theorem test_ld_a_i :
    let t := after .ldAI (base fun c => { c with i := 0x80, iff2 := true, f := 0x01 })
    (t.cpu.a, t.cpu.f, t.clock.tstates) = (0x80, 0x85, 1009) := by decide
-- R245 and L2.7: R wraps in seven bits
theorem test_ld_a_r :
    let t := after .ldAR (base fun c => { c with r := 0x7E, f := 0x01 })
    (t.cpu.a, t.cpu.f, t.cpu.r) = (0x00, 0x41, 0x00) := by decide
-- R247: bit 7 of R stays
theorem test_ld_r_a :
    (after .ldAR (after .ldRA (base fun c => { c with a := 0x80 }))).cpu.a = 0x82 := by decide
-- R249
theorem test_ld_iyh_n :
    (after (.ldIhlN .iy .ih 0x5B) (base id)).cpu.iy = 0x5B00 := by decide
-- R250
theorem test_push :
    let t := after (.pushQq .bc) (base fun c => { c with b := 0x12, c := 0x34, sp := 0x9000 })
    (t.readByte 0x8FFF, t.readByte 0x8FFE, t.cpu.sp) = (0x12, 0x34, 0x8FFE) := by decide
-- R252; L2.7: POP AF loads F whole
theorem test_pop :
    let t := after (.popQq .af) (poke 0x8FFE [0xD7, 0x12] (base fun c => { c with sp := 0x8FFE }))
    (t.cpu.a, t.cpu.f, t.cpu.sp) = (0x12, 0xD7, 0x9000) := by decide
-- R257
theorem test_ld_sp_nn :
    (after (.ldRrMNn .sp 0x8000) (poke 0x8000 [0x00, 0xC0] (base id))).cpu.sp = 0xC000 := by decide
-- L2.7: `LD (0x9FFF),HL`
theorem test_ld_nn_hl :
    let t := after (.ldMNnHl 0x9FFF) (base fun c => { c with h := 0xAB, l := 0xCD })
    (t.readByte 0x9FFF, t.readByte 0xA000, t.clock.tstates) = (0xCD, 0xAB, 1016) := by decide
-- R262, R266
theorem test_exchanges :
    let t := after .exAfAf (base fun c => { c with a := 1, f := 2, a2 := 3, f2 := 4 })
    let u := after .exDeHl (base fun c => { c with d := 0x22, e := 0x23, h := 0x33, l := 0x34 })
    (t.cpu.a, t.cpu.f, t.cpu.a2, t.cpu.f2) = (3, 4, 1, 2)
      ∧ (u.cpu.d, u.cpu.e, u.cpu.h, u.cpu.l) = (0x33, 0x34, 0x22, 0x23) := by decide
-- R267
theorem test_ex_sp_hl :
    let t := after .exMSpHl (poke 0x9000 [0x78, 0x56]
      (base fun c => { c with h := 0x12, l := 0x34, sp := 0x9000 }))
    (t.cpu.hl, t.readByte 0x9000, t.readByte 0x9001, t.cpu.sp, t.clock.tstates)
      = (0x5678, 0x34, 0x12, 0x9000, 1019) := by decide
-- R270: the second row of L2.8
theorem test_ldi :
    let t := after .ldi (poke 0x9000 [0x02]
      (base fun c => (((c.setHl 0x9000).setDe 0x9800).setBc 2).setReg .a 0x20))
    (t.cpu.f, t.cpu.hl, t.cpu.de, t.cpu.bc, t.readByte 0x9800) = (0x24, 0x9001, 0x9801, 1, 0x02) := by decide
-- R271: an iteration that repeats and one that ends
theorem test_ldir :
    let s := poke 0x9000 [0x11] (base fun c => ((c.setHl 0x9000).setDe 0x9800).setBc 2)
    let t := after .ldir s
    let u := after .ldir t
    (t.cpu.pc, t.clock.tstates, u.cpu.pc, u.clock.tstates, u.cpu.bc)
      = (0x8000, 1021, 0x8002, 1037, 0) := by decide
-- R274, R276: rows of L2.8
theorem test_cpi :
    (after .cpi (poke 0x9000 [0x01] (base fun c => ((c.setHl 0x9000).setBc 2).setReg .a 0x10))).cpu.f
      = 0x3E := by decide
theorem test_cpd :
    let t := after .cpd (poke 0x9000 [0x01] (base fun c => (c.setHl 0x9000).setBc 3))
    (t.cpu.f, t.cpu.hl, t.cpu.bc) = (0xBE, 0x8FFF, 2) := by decide
-- R275: the search ends at a match before the count does
theorem test_cpir :
    let t := after .cpir (poke 0x9000 [0x02] (base fun c => ((c.setHl 0x9000).setBc 5).setReg .a 0x02))
    (t.cpu.hl, t.cpu.bc, flagZ t.cpu.f, flagPV t.cpu.f, t.cpu.pc, t.clock.tstates)
      = (0x9001, 4, true, true, 0x8002, 1016) := by decide

/-! ## Arithmetic and logic (41): rows of L2.1 to L2.4 -/

theorem test_add :
    let t := after (.addAN 0x01) (base fun c => { c with a := 0x7F })
    (t.cpu.a, t.cpu.f, t.clock.tstates) = (0x80, 0x94, 1007) := by decide
theorem test_adc :
    let t := after (.adcAN 0xC6) (base fun c => { c with a := 0x3A, f := 0x01 })
    (t.cpu.a, t.cpu.f) = (0x01, 0x11) := by decide
theorem test_sub :
    let t := after (.subAN 0xC6) (base fun c => { c with a := 0x3A, f := 0x01 })
    (t.cpu.a, t.cpu.f) = (0x74, 0x23) := by decide
theorem test_sbc :
    let t := after (.sbcAN 0x10) (base fun c => { c with a := 0x10, f := 0x01 })
    (t.cpu.a, t.cpu.f) = (0xFF, 0xBB) := by decide
theorem test_and :
    let t := after (.andAN 0x01) (base fun c => { c with a := 0x80, f := 0x01 })
    (t.cpu.a, t.cpu.f) = (0x00, 0x54) := by decide
theorem test_xor :
    let t := after (.xorAN 0xC6) (base fun c => { c with a := 0x3A, f := 0x01 })
    (t.cpu.a, t.cpu.f) = (0xFC, 0xAC) := by decide
theorem test_or :
    let t := after (.orAN 0x01) (base fun c => { c with a := 0x0F })
    (t.cpu.a, t.cpu.f) = (0x0F, 0x0C) := by decide
theorem test_cp :
    let t := after (.cpAN 0x01) (base fun c => { c with a := 0x80, f := 0x01 })
    (t.cpu.a, t.cpu.f) = (0x80, 0x16) := by decide
-- An operand that is the destination, and an operand in an index half
theorem test_add_a_a :
    (after (.addAR .a) (base fun c => { c with a := 0x80 })).cpu.f = 0x45 := by decide
theorem test_inc :
    let t := after (.incR .a) (base fun c => { c with a := 0x7F, f := 0x01 })
    (t.cpu.a, t.cpu.f) = (0x80, 0x95) := by decide
theorem test_dec :
    let t := after (.decR .a) (base fun c => { c with a := 0x80 })
    (t.cpu.a, t.cpu.f) = (0x7F, 0x3E) := by decide
-- R311
theorem test_inc_mhl :
    let t := after .incMHl (poke 0x8000 [0x0F] (base fun c => { c with h := 0x80, f := 0x01 }))
    (t.readByte 0x8000, t.cpu.f, t.clock.tstates) = (0x10, 0x11, 1011) := by decide
-- R315
theorem test_dec_miy :
    let t := after (.decMIx .iy 0xFF) (poke 0x8FFF [0x01] (base fun c => { c with iy := 0x9000 }))
    (t.readByte 0x8FFF, t.cpu.f, t.clock.tstates) = (0x00, 0x42, 1023) := by decide
-- L2.7: `INC IXH`
theorem test_inc_ixh :
    let t := after (.incIhl .ix .ih) (base fun c => { c with ix := 0x12FF })
    (t.cpu.ix, t.cpu.f, t.clock.tstates) = (0x13FF, 0x00, 1008) := by decide
theorem test_daa_add :
    let t := after .daa (base fun c => { c with a := 0x9A })
    (t.cpu.a, t.cpu.f) = (0x00, 0x55) := by decide
theorem test_daa_sub :
    let t := after .daa (base fun c => { c with a := 0xFA, f := 0x02 })
    (t.cpu.a, t.cpu.f) = (0x94, 0x83) := by decide
theorem test_cpl :
    let t := after .cpl (base fun c => { c with a := 0xFF, f := 0xC5 })
    (t.cpu.a, t.cpu.f) = (0x00, 0xD7) := by decide
theorem test_neg :
    let t := after .neg (base fun c => { c with a := 0x10 })
    (t.cpu.a, t.cpu.f, t.clock.tstates) = (0xF0, 0xA3, 1008) := by decide
-- L2.3: everything but the drawn Y and X
theorem test_scf :
    (after .scf (base fun c => { c with f := 0xD6 })).cpu.f
      = packF true true (Config.drawBool 0) false (Config.drawBool 1) true false true := rfl
theorem test_ccf :
    (after .ccf (base fun c => { c with f := 0x01 })).cpu.f
      = packF false false (Config.drawBool 0) true (Config.drawBool 1) false false false := rfl
theorem test_add_hl :
    let t := after (.addHlRr .bc) (base fun c => ((c.setHl 0x7FFF).setBc 1).setReg .a 0 |> fun c =>
      { c with f := 0xC5 })
    (t.cpu.hl, t.cpu.f, t.clock.tstates) = (0x8000, 0xD4, 1011) := by decide
theorem test_adc_hl :
    let t := after (.adcHlRr .bc) (base fun c => { (c.setHl 0xFFFF).setBc 0 with f := 0x01 })
    (t.cpu.hl, t.cpu.f, t.clock.tstates) = (0x0000, 0x51, 1015) := by decide
theorem test_sbc_hl :
    let t := after (.sbcHlRr .bc) (base fun c => (c.setHl 0x8000).setBc 1)
    (t.cpu.hl, t.cpu.f, t.clock.tstates) = (0x7FFF, 0x3E, 1015) := by decide
-- R325, R327
theorem test_inc_dec_pairs :
    (after (.incRr .sp) (base fun c => { c with sp := 0xFFFF })).cpu.sp = 0x0000
      ∧ (after (.decRr .bc) (base id)).cpu.bc = 0xFFFF := by decide

/-! ## Rotates and bits (42): rows of L2.5 and L2.6 -/

theorem test_rotates_left :
    let run := fun i : Instr =>
      let t := after i (base fun c => { c with b := 0x81, f := 0x01 })
      (t.cpu.b, t.cpu.f)
    run (.rlcR .b) = (0x03, 0x05) ∧ run (.rlR .b) = (0x03, 0x05) ∧ run (.slaR .b) = (0x02, 0x01)
      ∧ run (.sllR .b) = (0x03, 0x05) := by decide
theorem test_rotates_right :
    let run := fun i : Instr =>
      let t := after i (base fun c => { c with b := 0x81 })
      (t.cpu.b, t.cpu.f)
    run (.rrcR .b) = (0xC0, 0x85) ∧ run (.rrR .b) = (0x40, 0x01) ∧ run (.sraR .b) = (0xC0, 0x85)
      ∧ run (.srlR .b) = (0x40, 0x01) := by decide
theorem test_accumulator_rotates :
    let run := fun i : Instr =>
      let t := after i (base fun c => { c with a := 0x81, f := 0xC5 })
      (t.cpu.a, t.cpu.f)
    run .rlca = (0x03, 0xC5) ∧ run .rrca = (0xC0, 0xC5) ∧ run .rla = (0x03, 0xC5)
      ∧ run .rra = (0xC0, 0xC5) := by decide
theorem test_digit_rotates :
    let run := fun i : Instr =>
      let t := after i (poke 0x9000 [0x34] (base fun c => { c with a := 0x12, f := 0x01, h := 0x90 }))
      (t.cpu.a, t.readByte 0x9000, t.cpu.f, t.clock.tstates)
    run .rld = (0x13, 0x42, 0x01, 1018) ∧ run .rrd = (0x14, 0x23, 0x05, 1018) := by decide
theorem test_rlc_iy :
    let t := after (.rlcMIx .iy 0xFF) (poke 0x8FFF [0x80] (base fun c => { c with iy := 0x9000 }))
    (t.readByte 0x8FFF, t.cpu.f, t.clock.tstates) = (0x01, 0x01, 1023) := by decide
theorem test_bit :
    let run := fun b => (after (.bitBR b .a) (base fun c => { c with a := 0xA8, f := 0x01 })).cpu.f
    [run 0, run 1, run 2, run 3, run 4, run 5, run 6, run 7]
      = [0x7D, 0x7D, 0x7D, 0x39, 0x7D, 0x39, 0x7D, 0xB9] := by decide
theorem test_bit_ix :
    (after (.bitBMIx .ix 7 0x05) (poke 0x9005 [0x80] (base fun c => { c with ix := 0x9000 }))).cpu.f
      = packF true false (Config.drawBool 0) true (Config.drawBool 1) false false false := rfl
theorem test_set_copy :
    let t := after (.setBMIxCopy .ix 0 0x00 .b) (base fun c => { c with ix := 0x9000 })
    (t.cpu.b, t.readByte 0x9000, t.clock.tstates) = (0x01, 0x01, 1023) := by decide
theorem test_res_mhl :
    let t := after (.resBMHl 0) (poke 0x9000 [0xFF] (base fun c => { c with h := 0x90 }))
    (t.readByte 0x9000, t.clock.tstates) = (0xFE, 1015) := by decide

/-! ## Control (43): rows of L2.9 -/

theorem test_jr :
    (after (.jr 0x80) (base id)).cpu.pc = 0x7F82 ∧ (after (.jr 0x7F) (base id)).cpu.pc = 0x8081
      ∧ (after (.jr 0x00) (base fun c => { c with pc := 0xFFFE })).cpu.pc = 0x0000 := by decide
theorem test_jr_c :
    let t := after (.jrC .c 0x10) (base fun c => { c with pc := 0xA000 })
    (t.cpu.pc, t.clock.tstates) = (0xA002, 1007) := by decide
theorem test_djnz :
    let t := after (.djnz 0xFE) (base id)
    let u := after (.djnz 0xFE) (base fun c => { c with b := 0x01 })
    (t.cpu.b, t.cpu.pc, t.clock.tstates) = (0xFF, 0x8000, 1013)
      ∧ (u.cpu.b, u.cpu.pc, u.clock.tstates) = (0x00, 0x8002, 1008) := by decide
theorem test_jp_c :
    (after (.jpCNn .z 0x9000) (base fun c => { c with pc := 0xA000 })).cpu.pc = 0xA003
      ∧ (after (.jpCNn .z 0x9000) (base fun c => { c with f := 0x40 })).cpu.pc = 0x9000 := by decide
-- The push that straddles the ROM: its high byte's write is discarded
theorem test_call_into_rom :
    let t := after (.callNn 0x9000) (base fun c => { c with sp := 0x0001 })
    (t.cpu.sp, t.readByte 0x0000, t.readByte 0xFFFF, t.clock.tstates) = (0xFFFF, 0x00, 0x03, 1017) := by decide
theorem test_call_c :
    let t := after (.callCNn .c 0x9000) (base fun c => { c with pc := 0xA000, f := 0x01 })
    let u := after (.callCNn .nz 0x9000) (base fun c => { c with pc := 0xA000, f := 0x40 })
    (t.cpu.pc, t.cpu.sp, t.clock.tstates) = (0x9000, 0xFEFE, 1017)
      ∧ (u.cpu.pc, u.clock.tstates) = (0xA003, 1010) := by decide
theorem test_ret_c :
    let run := fun (f : Byte) (cc : Cond) => (after (.retC cc) (base fun c => { c with f := f })).clock.tstates
    [Cond.nz, .nc, .po, .p].map (run 0x00) = [1011, 1011, 1011, 1011]
      ∧ [Cond.nz, .nc, .po, .p].map (run 0xFF) = [1005, 1005, 1005, 1005]
      ∧ [Cond.z, .c, .pe, .m].map (run 0x00) = [1005, 1005, 1005, 1005]
      ∧ [Cond.z, .c, .pe, .m].map (run 0xFF) = [1011, 1011, 1011, 1011] := by decide
theorem test_rst :
    let t := after (.rst 7) (base fun c => { c with pc := 0xA000 })
    (t.cpu.pc, t.cpu.sp, t.readByte 0xFEFE, t.readByte 0xFEFF) = (0x0038, 0xFEFE, 0x01, 0xA0) := by decide
theorem test_retn :
    let t := after .retn (poke 0xFF00 [0x34, 0x12] (base fun c => { c with iff2 := true }))
    (t.cpu.pc, t.cpu.iff1, t.cpu.sp, t.clock.tstates) = (0x1234, true, 0xFF02, 1014) := by decide
theorem test_ed00 :
    let t := after (.noni 0x00) (base fun c => { c with pc := 0xA000 })
    (t.cpu.pc, t.cpu.r, t.clock.tstates) = (0xA002, 2, 1008) := by decide

/-! ## Ports (43 R430 to R443): L2.10 and the rules' examples -/

/-- Key bit 0 of half-row 0 pressed. -/
def keyPressed (s : State) : State :=
  { s with ula := { s.ula with keyMatrix := s.ula.keyMatrix.set 0 0x1E } }

theorem test_in_a_n :
    let t := after (.inAN 0xFE) (keyPressed (base fun c => { c with a := 0xFE, f := 0x01 }))
    (t.cpu.a, t.cpu.f, t.clock.tstates) = (0xBE, 0x01, 1011) := by decide
theorem test_in_r_c :
    let t := after (.inRC .a) (keyPressed (base fun c => { c with b := 0xFE, c := 0xFE, f := 0x01 }))
    (t.cpu.a, t.cpu.f, t.clock.tstates) = (0xBE, 0xAD, 1012) := by decide
-- R433: the whole row of keys reads 0xBF
theorem test_ini :
    let t := after .ini (base fun c => (c.setHl 0x9000).setBc 0x01FE)
    (t.readByte 0x9000, t.cpu.b, t.cpu.hl, t.cpu.f) = (0xBF, 0x00, 0x9001, 0x57) := by decide
-- R440
theorem test_outi :
    let t := after .outi (poke 0x9000 [0x07] (base fun c => (c.setHl 0x9000).setBc 0x01FE))
    (t.ula.borderColour, t.cpu.b, t.cpu.hl, t.cpu.f) = (7, 0x00, 0x9001, 0x44) := by decide
-- R442
theorem test_outd :
    let t := after .outd (poke 0x9001 [0xFF] (base fun c => (c.setHl 0x9001).setBc 0x02FE))
    (t.cpu.b, t.cpu.hl, t.cpu.f) = (0x01, 0x9000, 0x06) := by decide
-- R438 and L2.10: the paging port of the 128K
theorem test_out_paging :
    let t := after (.outCR .a) (onArch .spec128 (base fun c => { c with a := 0x13, b := 0x7F, c := 0xFD }))
    (t.paging.port7FFD, t.paging.slot3.page, t.paging.slot3.contended, t.paging.slot0.page)
      = (0x13, .ram 3, true, .rom .rom1) := by decide
-- E3: register 6 of the AY reads 0x05 after 0xA5
theorem test_ay_read_back : (Ay.reset.setReg 6 0xA5).reg 6 = 0x05 := by decide

/-! ## Time (20): E2 and L2.11 -/

theorem test_delay :
    [0, 14334, 14335, 14336, 14340, 14341, 14343, 14462, 14463, 14559, 57239, 57343].map
        (delayAt defaultCfg) = [0, 0, 6, 5, 1, 0, 6, 0, 0, 6, 6, 0] := by decide
theorem test_contended_nop :
    [14333, 14335, 14342, 14343].map
        (fun n => (after .nop (atTime n (base fun c => { c with pc := 0x4000 }))).clock.tstates)
      = [14337, 14345, 14346, 14353] := by decide
theorem test_contended_out :
    let run := fun (n : Nat) (a p : Byte) =>
      (after (.outNA p) (atTime n (base fun c => { c with a := a }))).clock.tstates - n
    [run 14326 0x40 0xFF, run 14330 0x00 0xFE, run 14330 0x40 0xFE, run 14330 0x40 0xFF]
      = [17, 14, 15, 21] := by decide

/-! ## Interrupts (60): L2.12 -/

theorem test_im2 :
    let s := poke 0x90FF [0x00, 0xA0] (atTime 0 (base fun c =>
      { c with iff1 := true, iff2 := true, im := .im2, i := 0x90 }))
    let t := stepped s
    (t.cpu.pc, t.cpu.sp, t.readByte 0xFEFF, t.readByte 0xFEFE, t.cpu.iff1, t.cpu.iff2, t.clock.tstates)
      = (0xA000, 0xFEFE, 0x80, 0x00, false, false, 19) := by decide
theorem test_nmi :
    let t := stepped (atTime 10 (base fun c => { c with iff1 := true, iff2 := true, nmiPending := true }))
    (t.cpu.pc, t.cpu.iff1, t.cpu.iff2, t.clock.tstates) = (0x0066, false, true, 21) := by decide
theorem test_window_edge :
    (stepped (atTime 31 (base fun c => { c with iff1 := true, im := .im1 }))).cpu.pc = 0x0038
      ∧ (stepped (atTime 32 (base fun c => { c with iff1 := true, im := .im1 }))).cpu.pc = 0x8001
      ∧ (stepped (onArch .spec128
          (atTime 35 (base fun c => { c with iff1 := true, im := .im1 })))).cpu.pc = 0x0038 := by decide
theorem test_ei_chain :
    let t := stepped (stepped (poke 0x8000 [0xFB, 0xFB] (atTime 0 (base fun c => { c with im := .im1 }))))
    (t.cpu.pc, t.clock.tstates, t.cpu.iff1) = (0x8002, 8, true) := by decide

/-- Interrupts enabled, 9 T-states before the frame's end, with host actions to come. -/
def beforeEnd (q : List HostAction) : State :=
  { atTime 69879 (base fun c => { c with iff1 := true, iff2 := true }) with
    hostQueue := q, frameBoundary := false }
/-- A snapshot record with IFF1 set, at a frame time. -/
def enabledSnapshot (t : Nat) : Snapshot :=
  { cpu := { Cpu.reset with iff1 := true }, pc := 0, sp := 0, im := 1, ram := [], border := 0,
    port7FFD := 0, tstates := some t, ayRegs := none }
-- R244, R463, R470, R481, R780: at a frame's end the host's actions before the next FrameStep decide
-- whether an interrupt follows: a pulse of NMI, a Reset and a snapshot past the window leave none
theorem test_int_after_frame_end :
    let foreseen (q : List HostAction) : Bool := intAtBoundary (internalIr 1 (fetchOp2 (beforeEnd q)))
    (foreseen [] = true ∧ foreseen [.tapeStop] = true ∧ foreseen [.frameStep, .reset] = true)
      ∧ (foreseen [.pulseNmi] = false ∧ foreseen [.reset] = false ∧ foreseen [.pulseNmi, .reset] = false)
      ∧ (foreseen [.loadSnapshot (enabledSnapshot 31)] = true
          ∧ foreseen [.loadSnapshot (enabledSnapshot 32)] = false
          ∧ foreseen [.reset, .loadSnapshot (enabledSnapshot 0)] = true
          ∧ foreseen [.loadSnapshot (enabledSnapshot 69888)] = true) := by decide
-- R244: PV = IFF2 where a Reset leaves no interrupt at the next boundary
theorem test_ld_a_i_before_reset :
    (after .ldAI (beforeEnd [.reset])).cpu.f = 0x44
      ∧ (after .ldAI (beforeEnd [.reset])).drawCount = 0
      ∧ (after .ldAI (beforeEnd [])).drawCount = 1 := by decide

/-! ## Devices: L2.13 to L2.16, E4 -/

theorem test_screen_address :
    (bitmapOffset 63 0, bitmapOffset 64 0, bitmapOffset 100 5, attrOffset 191 31)
      = (0x07E0, 0x0800, 0x0C85, 0x1AFF) := by decide
theorem test_pixel_colours :
    (List.range 8).map (fun i => (pixelColour 0x0F 0xCA true i).toNat) = [10, 10, 10, 10, 9, 9, 9, 9]
      ∧ (pixelColour 0x80 0x47 false 0).toNat = 15 := by decide
theorem test_envelope_levels :
    [0, 1, 31, 32, 33, 62, 63].map (envLevel 10) = [31, 30, 0, 0, 1, 30, 31]
      ∧ [0, 1, 31, 32, 33, 62, 63].map (envLevel 13) = [0, 1, 31, 31, 31, 31, 31] := by decide
theorem test_lfsr :
    (Ay.reset.chipStep).lfsr = 0x14000 ∧ (Ay.reset.chipStep.chipStep.chipStep).lfsr = 0x0A000 := by decide
theorem test_ms_to_steps :
    [3, 6, 10, 12, 15, 20, 30].map (msToSteps defaultCfg) = [94, 188, 313, 375, 469, 625, 938] := by decide
theorem test_trd_offset :
    (trdOffset 2 0 0 9, trdOffset 2 0 1 1, trdOffset 1 39 0 16, trdOffset 2 79 1 16)
      = (2048, 4096, 163584, 655104) := by decide
theorem test_sample_clock :
    (samplesPerFrame defaultCfg, sampleDue defaultCfg 1, sampleDue defaultCfg 439,
      sampleDue defaultCfg 879) = (880, 79, 34864, 69808) := by decide

/-- A tape of one block `FF A5`, played at time 0. -/
def played : Tape :=
  (Tape.reset.insert defaultCfg 0
    (some { size := 4, cells := [(0, 0x02), (2, 0xFF), (3, 0xA5)] })).1.play defaultCfg 0

theorem test_tape_edges :
    played.pulseCount = 3223 ∧ (played.catchUp defaultCfg 2167).earBit = false
      ∧ (played.catchUp defaultCfg 2168).earBit = true
      ∧ (played.catchUp defaultCfg 4336).earBit = false := by decide

/-- In the second sync pulse of a block whose image ends after its length field. -/
def cutOff : Tape :=
  { Tape.reset with
    status := .loading, image := some { size := 2, cells := [(0, 0x05)] }, phase := .sync2, pos := 2,
    blockEnd := 2, pulseLen := 735 }

-- R704, R707, R716: such a block plays no byte; after its pause the tape ends
theorem test_tape_block_cut_off :
    (cutOff.edge defaultCfg 0).phase = .pause ∧ (cutOff.edge defaultCfg 0).pulseLen = 3500000
      ∧ ((cutOff.edge defaultCfg 0).edge defaultCfg 0).status = .stopped := by decide

/-! ## Witnesses: for each statement with hypotheses, states and operands that meet them, one for each
clause, at the ends of its range -/

/-- A state on the Pentagon, which has no contention. -/
def pentagon : State := onArch .pentagon State.reset

theorem witness_DecodeEncodeRoundTrip :
    ((Instr.ldRS .a .b).wf = true ∧ (Instr.ldRS .a .b).isWdCommand = false
        ∧ ∀ x, Instr.ldRS .a .b ≠ .ignoredPrefix x)
      ∧ ((Instr.negDup 7).wf = true ∧ (Instr.noni 0xFF).wf = true)
      ∧ (ddAffected 0x00 = false ∧ ddAffected 0xFF = false)
      ∧ (Instr.wdSeek false false 3).isWdCommand = true :=
  ⟨⟨by decide, by decide, by simp⟩, by decide, by decide, by decide⟩

theorem witness_StepRunsDecodedInstruction :
    cfgAdmitted State.reset.cfg = true ∧ (State.reset.frameBoundary = false ∨ State.reset.hostQueue = [])
      ∧ State.reset.clock.tstates < (archConfig State.reset.cfg).tFrame
      ∧ State.reset.cpu.nmiPending = false ∧ acceptsInt State.reset = false
      ∧ State.reset.cpu.halted = false ∧ decode (peekBytes State.reset) = .ok (.nop, [0, 0, 0]) :=
  ⟨by decide, by decide, by decide, by decide, by decide, by decide, rfl⟩

-- The last T-state of a frame
theorem witness_StepRunsDecodedInstruction_last :
    (atTime 69887 State.reset).clock.tstates < (archConfig (atTime 69887 State.reset).cfg).tFrame := by
  decide

theorem witness_OnlyUndocumentedFormsAreRefused :
    (isUndocumented (.sllR .b) = true ∧ (refusing State.reset).cfg.undoc = .refuse)
      ∧ isUndocumented .nop = false ∧ State.reset.cfg.undoc = .execute := by decide

theorem witness_StepNeverStopsOtherwise : cfgAdmitted State.reset.cfg = true := by decide

/-- Frame time 0 with an NMI pending. -/
def withNmi : State := base fun c => { c with nmiPending := true }
/-- In the interrupt window with interrupts enabled. -/
def withInt : State := atTime 31 (base fun c => { c with iff1 := true })
/-- Halted outside the window. -/
def withHalt : State := atTime 32 (base fun c => { c with iff1 := true, halted := true })

theorem witness_BoundaryPriority :
    (cfgAdmitted withNmi.cfg = true ∧ withNmi.hostQueue = [] ∧ withNmi.cpu.nmiPending = true
        ∧ withNmi.clock.tstates < (archConfig withNmi.cfg).tFrame)
      ∧ (withInt.cpu.nmiPending = false ∧ acceptsInt withInt = true)
      ∧ (withHalt.cpu.nmiPending = false ∧ acceptsInt withHalt = false ∧ withHalt.cpu.halted = true)
      ∧ (∃ t, exec .ei withInt = .next t) ∧ ∃ t, exec (.ignoredPrefix .ix) withInt = .next t :=
  ⟨by decide, by decide, by decide, ⟨_, rfl⟩, ⟨_, rfl⟩⟩

theorem witness_InterruptEntry :
    (archConfig pentagon.cfg).hasContention = false
      ∧ (base fun c => { c with im := .im2 }).cpu.im = .im2 ∧ pentagon.cpu.im ≠ .im2 := by decide

theorem witness_EndOfFrameBookkeeping :
    cfgAdmitted (atTime 69888 State.reset).cfg = true ∧ (atTime 69888 State.reset).hostQueue = []
      ∧ (archConfig (atTime 69888 State.reset).cfg).tFrame ≤ (atTime 69888 State.reset).clock.tstates
      ∧ ({ State.reset.ula with flashCount := 15 } : Ula).flashCount.toNat = 15
      ∧ State.reset.cfg.arch ≠ .tk ∧ (onArch .spec128 State.reset).cfg.arch ≠ .tk
      ∧ pentagon.cfg.arch ≠ .tk ∧ (onArch .plus2A3 State.reset).cfg.arch ≠ .tk := by decide

theorem witness_InstructionsAdvanceTime :
    (∃ t, exec .nop State.reset = .next t) ∧ (∃ t, exec (.wdReadAddress false) State.reset = .next t)
      ∧ ∃ t, loopStep State.reset = .next t := ⟨⟨_, rfl⟩, ⟨_, rfl⟩, ⟨_, rfl⟩⟩

theorem witness_UncontendedTimes :
    (archConfig pentagon.cfg).hasContention = false ∧ ∃ t, exec .ldir pentagon = .next t :=
  ⟨by decide, ⟨_, rfl⟩⟩

theorem witness_ContentionDelay :
    (archConfig pentagon.cfg).hasContention = false
      ∧ ((archConfig defaultCfg).hasContention = true
          ∧ (archConfig defaultCfg).contStart = some 14335 ∧ 14334 < 14335)
      ∧ (0 < (archConfig defaultCfg).tLine ∧ 223 < (archConfig defaultCfg).tLine)
      ∧ (defaultCfg.arch = .spec48 ∧ (archConfig defaultCfg).tFrame ≤ 69888)
      ∧ (defaultCfg.arch ≠ .tk ∧ defaultCfg.arch ≠ .plus2A3)
      ∧ (onArch .tk State.reset).cfg.arch = .tk
      ∧ ((onArch .plus2A3 State.reset).cfg.arch = .plus2A3
          ∧ (onArch .plus2A3 State.reset).cfg.contendedBanks = defaultCfg.contendedBanks) := by decide

theorem witness_BusCycleTimes :
    (archConfig pentagon.cfg).hasContention = false
      ∧ (archConfig State.reset.cfg).hasContention = true
      ∧ [(0x00FE : Word), 0x00FF, 0x40FE, 0x40FF].map
          (fun p => (contendedAt State.reset.cfg State.reset.paging p, isUlaPort p))
        = [(false, true), (false, false), (true, true), (true, false)] := by decide

theorem witness_PagingFollowsTheLatch :
    ((archConfig pentagon.cfg).hasPaging = true ∧ (0x7FFD : Word).getLsbD 15 = false
        ∧ (0x7FFD : Word).getLsbD 1 = false ∧ betaSelected pentagon 0x7FFD = false)
      ∧ (archConfig State.reset.cfg).hasPaging = false ∧ (0x8000 : Word).getLsbD 15 = true
      ∧ (0x0002 : Word).getLsbD 1 = true := by decide

/-- A Pentagon with its paging latch locked. -/
def locked : State := { pentagon with paging := { pentagon.paging with port7FFD := 0x20 } }

theorem witness_PagingLockHolds :
    locked.paging.port7FFD.getLsbD 5 = true ∧ locked.hostQueue = [] ∧ ∃ t, step locked = .next t :=
  ⟨by decide, rfl, ⟨_, rfl⟩⟩

/-- The TR-DOS ROM paged in. -/
def inTrdos : State := { State.reset with paging := pageTable defaultCfg 0x00 true }

theorem witness_TrdosPagingAtFetch :
    (State.reset.cfg.betadisk = true ∧ State.reset.paging.trdosActive = false
        ∧ hiByte 0x3D00 = 0x3D ∧ hiByte 0x3DFF = 0x3D
        ∧ romSel State.reset.cfg State.reset.paging.port7FFD = .rom1)
      ∧ (inTrdos.cfg.betadisk = true ∧ inTrdos.paging.trdosActive = true ∧ 0x4000 ≤ (0x4000 : Word).toNat)
      ∧ (hiByte 0x3CFF ≠ 0x3D ∧ hiByte 0x3E00 ≠ 0x3D
        ∧ romSel pentagon.cfg pentagon.paging.port7FFD ≠ .rom1 ∧ (0x3FFF : Word).toNat < 0x4000) := by
  decide

theorem witness_StoresReadBack :
    Memory.wf State.reset.ram = true
      ∧ storePlace pentagon.paging 0xFFFF ≠ none ∧ storePlace pentagon.paging 0x3FFF = none := by decide

theorem witness_RomWritesAreDiscarded :
    (slotAt State.reset.paging 0x3FFF).page = .rom .rom1 ∧ PageTableForm State.reset := by
  unfold PageTableForm
  decide

theorem reset_MemoryForm : MemoryForm State.reset :=
  ⟨by decide, by decide, by decide, by decide, fun _ h => by simp [State.reset, Tape.reset] at h⟩

theorem witness_StepKeepsMemoryForm : MemoryForm State.reset ∧ ∃ t, step State.reset = .next t :=
  ⟨reset_MemoryForm, ⟨_, rfl⟩⟩

theorem witness_StepKeepsMapClocksAndRom :
    PageTableForm State.reset ∧ ClockForm State.reset ∧ ∃ t, step State.reset = .next t :=
  ⟨by unfold PageTableForm; decide, by unfold ClockForm; decide, ⟨_, rfl⟩⟩

theorem witness_StepKeepsBusyExact :
    WdForm State.reset ∧ HeadForm State.reset ∧ ∃ t, step State.reset = .next t :=
  ⟨by unfold WdForm; decide, by unfold HeadForm; decide, ⟨_, rfl⟩⟩

theorem witness_StepKeepsAyForm : AyForm State.reset ∧ ∃ t, step State.reset = .next t :=
  ⟨by unfold AyForm; decide, ⟨_, rfl⟩⟩

theorem witness_ControlStateChanges :
    (∃ t, exec .ei State.reset = .next t) ∧ (∃ t, exec .retn State.reset = .next t)
      ∧ (∃ t, exec (.imDup 7) State.reset = .next t) ∧ ∃ t, exec .ldRA State.reset = .next t :=
  ⟨⟨_, rfl⟩, ⟨_, rfl⟩, ⟨_, rfl⟩, ⟨_, rfl⟩⟩

-- The one hypothesis of Loads, AluInstructions, IncrementsAndDecrements, AccumulatorAndFlags,
-- RotatesAndShifts, BitInstructions, CallsAndReturns, CpuControl and ByteInputAndOutput
theorem witness_execute : State.reset.cfg.undoc = .execute := by decide

-- A store that lands in RAM and a byte outside it (MemoryStores, StackAndExchanges and the other storing
-- statements)
theorem witness_MemoryStores :
    Memory.wf State.reset.ram = true ∧ storePlace State.reset.paging 0x4000 = some 81920
      ∧ storePlace State.reset.paging 0xFFFF ≠ some 81920 := by decide

theorem witness_LoadsOfIAndR :
    intAtBoundary (internalIr 1 (fetchOp2 (atTime 0 withInt))) = true
      ∧ intAtBoundary (internalIr 1 (fetchOp2 State.reset)) = false
      ∧ (cfgAdmitted withInt.cfg = true ∧ withInt.hostQueue = []
          ∧ withInt.clock.tstates < (archConfig withInt.cfg).tFrame ∧ intAtBoundary withInt = true)
      ∧ (cfgAdmitted withInt.cfg = true ∧ withInt.frameBoundary = true
          ∧ ({ withInt with hostQueue := [.reset] } : State).hostQueue ≠ [])
      ∧ (archConfig withInt.cfg).tFrame ≤ (atTime 69888 withInt).clock.tstates := by decide

theorem witness_BlockTransferAndSearch :
    (base fun c => c.setBc 2).cpu.bc - 1 ≠ 0 ∧ ¬ (base fun c => c.setBc 1).cpu.bc - 1 ≠ 0
      ∧ (base fun c => c.setBc 0).cpu.bc - 1 ≠ 0 ∧ (0x01 : Byte) - 0x02 ≠ 0 := by decide

-- Jumps and CallsAndReturns: each condition held by one F and not by another; DJNZ at B = 1 and B = 0
theorem witness_Jumps :
    [Cond.nz, .nc, .po, .p].map (fun cc => condHolds 0x00 cc) = [true, true, true, true]
      ∧ condOf 0x00 .nz ∧ ¬ condOf 0xFF .nz ∧ condOf 0xFF .z ∧ ¬ condOf 0x00 .z
      ∧ condOf 0x00 .nc ∧ ¬ condOf 0x01 .nc ∧ condOf 0x01 .c ∧ ¬ condOf 0x00 .c
      ∧ condOf 0x00 .po ∧ ¬ condOf 0x04 .po ∧ condOf 0x04 .pe ∧ ¬ condOf 0x00 .pe
      ∧ condOf 0x00 .p ∧ ¬ condOf 0x80 .p ∧ condOf 0x80 .m ∧ ¬ condOf 0x00 .m
      ∧ (base fun c => { c with b := 1 }).cpu.b = 1 ∧ (base id).cpu.b ≠ 1 := by
  simp [condOf, base, Cpu.reset, condHolds, flagZ, flagC, flagPV, flagS]

theorem witness_BlockInputAndOutput :
    (base fun c => { c with b := 2 }).cpu.b - 1 ≠ 0 ∧ ¬ (base fun c => { c with b := 1 }).cpu.b - 1 ≠ 0 := by
  decide

/-- The Kempston joystick fitted. -/
def withKempston : State := { State.reset with cfg := { State.reset.cfg with kempston := true } }

theorem witness_PortReads :
    betaTakes inTrdos 0x001F ∧ betaTakes inTrdos 0x00FF
      ∧ (¬ betaTakes State.reset 0x00FE ∧ (0x00FE : Word).getLsbD 0 = false)
      ∧ (¬ betaTakes pentagon 0xFFFD ∧ (0xFFFD : Word).getLsbD 0 = true
          ∧ (archConfig pentagon.cfg).hasAy = true ∧ (0xFFFD : Word).getLsbD 15 = true
          ∧ (0xFFFD : Word).getLsbD 14 = true ∧ (0xFFFD : Word).getLsbD 1 = false)
      ∧ (pentagon.ay.selected.toNat = 0 ∧ 13 < (14 : Byte).toNat)
      ∧ (¬ betaTakes withKempston 0x001F ∧ withKempston.cfg.kempston = true ∧ loByte 0x001F = 0x1F
          ∧ (archConfig withKempston.cfg).hasAy = false)
      ∧ (¬ betaTakes State.reset 0x00FF ∧ State.reset.cfg.kempston = false
          ∧ (0x00FF : Word).getLsbD 0 = true ∧ loByte 0x00FF ≠ 0x1F) := by
  unfold betaTakes
  decide

theorem witness_PortWrites :
    betaTakes inTrdos 0x007F ∧ ¬ betaTakes pentagon 0x7FFD
      ∧ pentagon.paging.port7FFD.getLsbD 5 = false ∧ (0xBFFD : Word).getLsbD 14 = false := by
  unfold betaTakes
  decide

theorem witness_FloatingBusValues :
    (State.reset.cfg.arch = .spec48 ∧ (archConfig State.reset.cfg).floatStart = some 14338
        ∧ 191 < 192 ∧ 127 < 128)
      ∧ (14337 < 14338 ∧ 192 ≤ (14338 + 192 * 224 - 14338) / (archConfig State.reset.cfg).tLine
        ∧ 128 ≤ (14338 + 128 - 14338) % (archConfig State.reset.cfg).tLine)
      ∧ pentagon.cfg.arch = .pentagon
      ∧ (onArch .tk State.reset).cfg.arch = .tk ∧ (onArch .plus2A3 State.reset).cfg.arch = .plus2A3 := by decide

theorem witness_AdvancePaintsItsSpan :
    State.reset.cfg.arch ≠ .tk ∧ cellsWf none State.reset.framebuffer.painted = true
      ∧ 319 < (geometry State.reset.cfg.resMode).width ∧ 239 < (geometry State.reset.cfg.resMode).height
      ∧ ((14336 : Int) ≤ unitTime State.reset.cfg 32 24 ∧ unitTime State.reset.cfg 32 24 < 14336 + 1)
      ∧ ¬ ((0 : Int) ≤ unitTime State.reset.cfg 32 24 ∧ unitTime State.reset.cfg 32 24 < 14336)
      ∧ cellsGet none State.reset.framebuffer.painted 76799 = none := by decide

theorem witness_AyRegisterRoundTrip :
    (archConfig pentagon.cfg).hasAy = true ∧ (13 : Byte).toNat ≤ 13 ∧ ¬ (14 : Byte).toNat ≤ 13
      ∧ (13 : Fin 14).val ≠ (12 : Byte).toNat ∧ (13 : Byte).toNat = 13 := by decide

theorem witness_AyTonePeriod :
    2 < max ({ Ay.reset with toneCnt := #v[3, 0, 0] } : Ay).toneCnt[(0 : Fin 3)].toNat 1
      ∧ 0 < max Ay.reset.toneCnt[(2 : Fin 3)].toNat 1
      ∧ 1 < max ({ Ay.reset with noiseCnt := 2 } : Ay).noiseCnt 1
      ∧ 1 < max ({ Ay.reset with envCnt := 2 } : Ay).envCnt.toNat 1 := by decide

theorem witness_EnvelopeWrapsOrHolds :
    Ay.reset.envPos = 0 ∧ Ay.reset.envHeld = false ∧ ¬ Ay.reset.shape ∈ [8, 10, 12, 14]
      ∧ (Ay.reset.setReg 13 8).shape ∈ [8, 10, 12, 14] ∧ (15 < 16 ∧ 63 < 64) ∧ (31 < 32 ∧ ¬ 32 < 32) := by
  decide

theorem witness_AySampleStream :
    volTableOk exampleVolTable = true ∧ Ay.reset.pcm.length = Ay.reset.sampleIndex
      ∧ Ay.reset.sampleIndex ≤ defaultCfg.outHz * (archConfig defaultCfg).usFrame / 1000000
      ∧ (archConfig defaultCfg).hasAy = false ∧ (archConfig pentagon.cfg).hasAy = true := by decide

/-- In the first sync pulse. -/
def inSync1 : Tape := { Tape.reset with phase := .sync1, pulseLen := 667 }
/-- At the start of a data byte that is not the last. -/
def inData : Tape :=
  { Tape.reset with phase := .data, curByte := 0xA5, pulseLen := 1710, pos := 4, blockEnd := 6 }

theorem witness_TapePulseTrain :
    (played.phase = .sync ∧ 1 ≤ played.pulseCount)
      ∧ (inSync1.phase = .sync1 ∧ inSync1.pulseLen = 667 ∧ inSync1.pos = inSync1.blockEnd)
      ∧ ({ inSync1 with blockEnd := 6 } : Tape).pos ≠ ({ inSync1 with blockEnd := 6 } : Tape).blockEnd
      ∧ (inData.phase = .data ∧ inData.bitHalf = false ∧ inData.bitMask = 0x80
          ∧ inData.pulseLen = (if inData.curByte.getLsbD 7 then 1710 else 855)
          ∧ inData.pos + 1 ≠ inData.blockEnd)
      ∧ ({ inData with blockEnd := 5 } : Tape).pos + 1 = ({ inData with blockEnd := 5 } : Tape).blockEnd
      ∧ (cutOff.edge defaultCfg 0).phase = .pause
      ∧ (cutOff.size < 1 + 2 ∧ ¬ cutOff.size < 0 + 2 ∧ cutOff.blockLen 0 = 5
          ∧ ({ cutOff with image := some { size := 2, cells := [] } } : Tape).blockLen 0 = 0)
      ∧ (1 ≤ played.pulseLen ∧ 1 ≤ (archConfig defaultCfg).cpuHz) := by decide

/-- A formatted, writable disk of two sides in unit 0, the controller released. -/
def withDisk (wp : Bool) : Disk :=
  { wd := { Wd.reset with heldInReset := false, betaSys := 0x3C },
    drives := Vector.replicate 4 { Drive.empty with available := true, writeProtected := wp } }

/-- The controller in a micro-state, unit 0 with a disk. -/
def inState (st : WdState) : Disk :=
  { withDisk false with wd := { (withDisk false).wd with state := st } }

theorem witness_WdCommands :
    Wd.reset.heldInReset = true
      ∧ (({ (withDisk false).wd with state := .t2Read } : Wd).state ≠ .idle ∧ 0x90 / 16 ≠ 13)
      ∧ ((withDisk false).wd.heldInReset = false ∧ 0xD0 / 16 = 13)
      ∧ ((withDisk false).wd.state = .idle ∧ 0x7F / 16 < 8 ∧ 8 ≤ 0x80 / 16)
      ∧ State.reset.disk.ready = false
      ∧ ((withDisk true).ready = true ∧ (withDisk true).drive.writeProtected = true ∧ 0xA0 / 32 = 5
          ∧ 0xF0 / 16 = 15)
      ∧ ((withDisk false).ready = true ∧ (withDisk false).drive.writeProtected = false
          ∧ ¬ (0x80 / 32 = 5 ∨ 0x80 / 16 = 15))
      ∧ 1 ≤ defaultCfg.diskByteTstates := by decide

-- The byte steps of WdCommands: every micro-state, at an index pulse and at another step
theorem witness_WdCommands_byteSteps (st : WdState) :
    (inState st).wd.heldInReset = false ∧ (indexed 6250 (inState st)).state = st
      ∧ (indexed 6250 (inState st)).revCount = 1 ∧ (indexed 6249 (inState st)).revCount = 0
      ∧ (indexed 6250 (inState st)).idCapture = false
      ∧ ({ (inState st).wd with idCapture := true } : Wd).idCapture = true := by
  cases st <;> decide

theorem witness_WdPortReads :
    Wd.reset.statusType = .typeI
      ∧ ({ Wd.reset with statusType := .typeIIIII } : Wd).statusType = .typeIIIII := by decide

theorem witness_WdSystemRegister :
    (0x3B : Byte).getLsbD 2 = false ∧ (0x3C : Byte).getLsbD 2 = true ∧ Wd.reset.heldInReset = true
      ∧ (withDisk false).wd.heldInReset = false ∧ (0x7F : Byte) ∈ [0x1F, 0x3F, 0x5F, 0x7F] := by decide

theorem witness_WdEndAndLostData :
    Wd.reset.drq = false ∧ ({ Wd.reset with drq := true } : Wd).drq = true := by decide

/-- A disk whose head stands past the last track. -/
def offDisk : Disk :=
  { withDisk false with
    drives := Vector.replicate 4 { Drive.empty with available := true, headTrack := 80 } }

/-- An SCL drive with an empty directory. -/
def sclDrive : Drive :=
  { Drive.empty with kind := .scl, image := { size := 9, cells := [] },
                     sclTrack0 := some { size := 4096, cells := [] } }

/-- A READ SECTOR about to deliver its first byte. -/
def reading : Disk := { inState .t2Read with wd := { (inState .t2Read).wd with byteIndex := 0 } }

theorem witness_TrackLayout :
    ((1 ≤ 16 ∧ 16 ≤ 16 ∧ 255 < 256) ∧ (withDisk false).formatted = true
        ∧ (offDisk.ready = true ∧ offDisk.formatted = false) ∧ State.reset.disk.ready = false)
      ∧ Drive.empty.kind = .trd
      ∧ (sclDrive.kind = .scl ∧ sclDrive.sclTrack0 = some { size := 4096, cells := [] })
      ∧ ((sclDrive.image.byte 8).toNat ≤ 128 ∧ 4095 < 4096 ∧ 8 < sclDrive.image.size)
      ∧ (reading.formatted = true ∧ reading.wd.heldInReset = false ∧ reading.wd.state = .t2Read
          ∧ reading.wd.byteIndex = 0 ∧ reading.wd.fastXfer = false
          ∧ (5719 + 1) % 6250 = 80 + 372 * (16 - 1) + 60) := by decide

/-- Reset with one host action due. -/
def withAction (a : HostAction) : State := { State.reset with hostQueue := [a] }

/-- A snapshot record, consistent where `pc` is an address. -/
def aSnapshot (pc : Nat) : Snapshot :=
  { cpu := Cpu.reset, pc := pc, sp := 0xFFFF, im := 2, ram := [], border := 7, port7FFD := 0,
    tstates := some 69887, ayRegs := none }

/-- The first nine bytes of an SCL image with a file count. -/
def sclCells (n : Byte) : Memory :=
  memSetAll [] [(0, 0x53), (1, 0x49), (2, 0x4E), (3, 0x43), (4, 0x4C), (5, 0x41), (6, 0x49), (7, 0x52), (8, n)]

theorem witness_HostActions :
    (cfgAdmitted (withAction .reset).cfg = true ∧ (withAction .reset).frameBoundary = true
        ∧ (withAction .reset).hostQueue = .reset :: [])
      ∧ (withAction .frameStep).hostQueue = .frameStep :: []
      ∧ (withAction (.setKeys (Vector.replicate 8 0))).hostQueue = .setKeys (Vector.replicate 8 0) :: []
      ∧ withKempston.cfg.kempston = true ∧ (withAction .pulseNmi).hostQueue = .pulseNmi :: []
      ∧ (withAction (.insertDisk 3 none false)).hostQueue = .insertDisk 3 none false :: []
      ∧ (withAction (.tapeInsert none)).hostQueue = .tapeInsert none :: []
      ∧ (aSnapshot 65536).consistent defaultCfg = false
      ∧ (aSnapshot 65535).consistent defaultCfg = true
      ∧ ({ aSnapshot 0 with ayRegs := some (Vector.replicate 14 0xFF) } : Snapshot).ayRegs
          = some (Vector.replicate 14 0xFF)
      ∧ (archConfig pentagon.cfg).hasAy = true ∧ (archConfig defaultCfg).hasAy = false
      ∧ (4 ≤ 4 ∧ (withAction (.ejectDisk 3)).hostQueue = .ejectDisk 3 :: []) := by decide

-- Images of HostActions: a TRD and an SCL image that mount, one of each that does not
theorem witness_HostActions_images :
    (mounted { size := 2276, cells := [(2275, 0x16)] } true 83).isSome = true
      ∧ mounted { size := 2275, cells := [] } true 83 = none
      ∧ mounted { size := 2276, cells := [(2275, 0x15)] } true 83 = none
      ∧ (mounted { size := 9, cells := sclCells 0x00 } false 83).isSome = true
      ∧ mounted { size := 9, cells := sclCells 0x81 } false 83 = none
      ∧ (0 < (2276 : Nat) ∧ 131071 < 131072) := by decide

end Sys2Proof.Tests
end

section
/-! What every step keeps of the memories: the canonical form of RAM, ROM, the framebuffer and the images. -/

namespace Sys2Proof.Machine

/-! ## The framebuffer -/

/-- The painted pixels are listed in canonical form. -/
def Framebuffer.wf (fb : Framebuffer) : Prop := cellsWf none fb.painted = true

theorem paintUnit_wf (r : Raster) (inp : RasterInput) (y h : Nat) {fb : Framebuffer} (hfb : fb.wf) :
    (paintUnit r inp y h fb).wf := by
  unfold paintUnit
  dsimp only
  split
  · split
    · exact List.foldlRecOn _ _ hfb fun fb hfb i _ => paintPixel_wf hfb r _ y _
    · exact hfb
  · exact paintPixel_wf (paintPixel_wf hfb r _ y _) r _ y _

theorem paintAt_wf (r : Raster) (inp : RasterInput) (u : Nat) {fb : Framebuffer} (hfb : fb.wf) :
    (paintAt r inp u fb).wf := by
  unfold paintAt
  split
  · exact hfb
  · exact List.foldlRecOn _ _ hfb fun fb hfb y _ => paintUnit_wf r inp y _ hfb

theorem paintSpan_wf (r : Raster) (inp : RasterInput) (t0 k : Nat) {fb : Framebuffer} (hfb : fb.wf) :
    (paintSpan r inp t0 k fb).wf :=
  List.foldlRecOn _ _ hfb fun _ hfb _ _ => paintAt_wf r inp _ hfb

/-! ## The tape keeps its image -/

@[simp] theorem tapeCleared_image (now : Nat) (t : Tape) : (t.cleared now).image = t.image := rfl

@[simp] theorem beginBlock_image (now p a : Nat) (t : Tape) : (t.beginBlock now p a).image = t.image := by
  unfold Tape.beginBlock
  split <;> rfl

@[simp] theorem nextPulse_image (c : Cfg) (now : Nat) (t : Tape) : (t.nextPulse c now).image = t.image := by
  unfold Tape.nextPulse
  cases t.phase with
  | sync1 => rfl
  | sync | sync2 | data => dsimp only; (repeat' split) <;> rfl
  | pause => exact beginBlock_image _ _ _ t

@[simp] theorem edge_image (c : Cfg) (now : Nat) (t : Tape) : (t.edge c now).image = t.image :=
  nextPulse_image c now _

@[simp] theorem edgesTo_image (c : Cfg) (now n : Nat) (t : Tape) :
    (Tape.edgesTo c now n t).image = t.image := by
  induction n generalizing t with
  | zero => rfl
  | succ n ih =>
    unfold Tape.edgesTo
    split
    · rw [ih, edge_image]
    · rfl

@[simp] theorem tapeCatchUp_image (c : Cfg) (now : Nat) (t : Tape) : (t.catchUp c now).image = t.image :=
  edgesTo_image c now _ t

@[simp] theorem tapePlay_image (c : Cfg) (now : Nat) (t : Tape) : (t.play c now).image = t.image := by
  unfold Tape.play
  dsimp only
  split
  · rw [beginBlock_image]
    exact tapeCatchUp_image c now t
  · exact tapeCatchUp_image c now t

@[simp] theorem tapeStop_image (c : Cfg) (now : Nat) (t : Tape) : (t.stop c now).image = t.image :=
  tapeCatchUp_image c now t

/-- The inserted image, if there is one, is in canonical form. -/
def Tape.wf (t : Tape) : Prop := ∀ img, t.image = some img → Memory.wf img.cells = true

theorem Tape.wf_of_image {t u : Tape} (h : u.image = t.image) (ht : t.wf) : u.wf := by
  unfold Tape.wf
  rwa [h]

theorem tapeInsert_wf (c : Cfg) (now : Nat) (image : Option Image) {t : Tape} (ht : t.wf) :
    (t.insert c now image).1.wf := by
  unfold Tape.insert
  split
  · exact ht
  · rename_i img
    rintro _ ⟨⟩
    exact image_normal_wf img

/-! ## What the disk side can do to a drive -/

/-- What the controller's byte steps do to a drive keeps `Q`: a byte written to the image, the head moved. -/
structure DriveClosed (Q : Drive → Prop) : Prop where
  write : ∀ dr off v, Q dr → Q { dr with image := dr.image.write off v }
  head : ∀ (dr : Drive) (up : Bool), Q dr →
    Q { dr with headTrack := if up then min (dr.headTrack + 1) 83 else dr.headTrack - 1 }

/-- Each of the four units meets `Q`. -/
def Disk.Each (Q : Drive → Prop) (d : Disk) : Prop := ∀ u : Fin 4, Q d.drives[u]

section
variable {Q : Drive → Prop} {d : Disk}

theorem Disk.Each.setWd (f : Wd → Wd) (h : d.Each Q) : (d.setWd f).Each Q := h

/-- One unit replaced. -/
theorem Disk.Each.set (h : d.Each Q) (u : Fin 4) {dr : Drive} (hdr : Q dr) (w : Wd) :
    ({ drives := d.drives.set u dr, wd := w } : Disk).Each Q := by
  intro v
  by_cases hv : u.val = v.val
  · simpa [Vector.getElem_set, hv] using hdr
  · simpa [Vector.getElem_set, hv] using h v

theorem Disk.Each.stepHead (h : d.Each Q) (q : DriveClosed Q) (c : Cfg) : (d.stepHead c).Each Q :=
  h.set _ (q.head _ _ (h _)) _

theorem Disk.Each.stepOrStop (h : d.Each Q) (q : DriveClosed Q) (c : Cfg) : (d.stepOrStop c).Each Q := by
  unfold Disk.stepOrStop
  split
  · exact h
  · exact h.stepHead q c

theorem Disk.Each.t1Decide (h : d.Each Q) (q : DriveClosed Q) (c : Cfg) : (d.t1Decide c).Each Q := by
  unfold Disk.t1Decide
  dsimp only
  split
  · split
    · split <;> exact h
    · exact Disk.Each.stepOrStop (h.setWd _) q c
  · split
    · exact h
    · exact h.stepOrStop q c

theorem Disk.Each.writeSectorByte (h : d.Each Q) (q : DriveClosed Q) (r i : Nat) (v : Byte) :
    (d.writeSectorByte r i v).Each Q := by
  unfold Disk.writeSectorByte
  dsimp only
  split
  · exact h.set _ (q.write _ _ _ (h _)) _
  · exact h

theorem Disk.Each.t2Write (h : d.Each Q) (q : DriveClosed Q) : d.t2Write.Each Q :=
  h.writeSectorByte q _ _ _

theorem Disk.Each.feed (h : d.Each Q) (q : DriveClosed Q) (v : Byte) : (d.feed v).Each Q := by
  unfold Disk.feed
  dsimp only
  split
  · exact h
  · split
    · exact h.writeSectorByte q _ _ _
    · split
      · exact h
      · split <;> exact h

theorem Disk.Each.t3Wt (h : d.Each Q) (q : DriveClosed Q) : d.t3Wt.Each Q := by
  have fed : ∀ w : Wd, ((emitBytes d.wd.take.1).foldl Disk.feed { d with wd := w }).Each Q := fun w =>
    List.foldlRecOn _ _ (motive := Disk.Each Q) h fun _ hd v _ => hd.feed q v
  exact fed _

theorem Disk.Each.t3WtIndex (h : d.Each Q) (q : DriveClosed Q) (index : Bool) :
    (d.t3WtIndex index).Each Q := by
  unfold Disk.t3WtIndex
  split
  · exact Disk.Each.t3Wt (h.setWd _) q
  · exact h

/-- The micro-states that step the head or take a byte to write; every other changes the controller only. -/
theorem Disk.Each.act (h : d.Each Q) (q : DriveClosed Q) (c : Cfg) (index : Bool) (b : Byte) :
    (d.act c index b).Each Q := by
  unfold Disk.act
  cases d.wd.state with
  | t1Decide => exact h.t1Decide q c
  | t2Write => exact h.t2Write q
  | t3WtIndex => exact h.t3WtIndex q index
  | t3Wt => exact h.t3Wt q
  | idle | t1StepWait | t1Settle | t1Verify | t2Settle | t2Search | t2Id | t2Dam | t2Read | t2Crc
  | t2Wgap | t3Ra | t3RtIndex | t3Rt | t3WtDrq => exact h

theorem Disk.Each.byteStep (h : d.Each Q) (q : DriveClosed Q) (c : Cfg) (k : Nat) :
    (d.byteStep c k).Each Q := by
  rw [byteStep_eq]
  split
  · exact h
  · exact (Disk.Each.act (d := { d with wd := indexed k d }) h q c _ _).setWd _

theorem Disk.Each.byteSteps (h : d.Each Q) (q : DriveClosed Q) (c : Cfg) (k n : Nat) :
    (d.byteSteps c k n).Each Q := by
  induction n generalizing k d with
  | zero => exact h
  | succ n ih => exact ih (h.byteStep q c _) _

theorem Disk.Each.catchUp (h : d.Each Q) (q : DriveClosed Q) (c : Cfg) (now : Nat) :
    (d.catchUp c now).Each Q :=
  (h.byteSteps q c _ _).setWd _

theorem Disk.Each.portRead (h : d.Each Q) (q : DriveClosed Q) (c : Cfg) (now : Nat) (lo : Byte) :
    (d.portRead c now lo).2.Each Q := by
  unfold Disk.portRead
  have := h.catchUp q c now
  dsimp only
  (repeat' split) <;> exact this

theorem Disk.Each.commandWrite (h : d.Each Q) (c : Cfg) (v : Byte) : (d.commandWrite c v).Each Q := by
  unfold Disk.commandWrite
  (repeat' split) <;> exact h

theorem Disk.Each.systemWrite (h : d.Each Q) (c : Cfg) (v : Byte) : (d.systemWrite c v).Each Q := by
  unfold Disk.systemWrite
  dsimp only
  (repeat' split) <;> exact h

theorem Disk.Each.portWrite (h : d.Each Q) (q : DriveClosed Q) (c : Cfg) (now : Nat) (lo v : Byte) :
    (d.portWrite c now lo v).Each Q := by
  unfold Disk.portWrite
  have hc := h.catchUp q c now
  dsimp only
  split
  · exact hc.systemWrite c v
  · split
    · exact hc
    · split
      · exact hc.commandWrite c v
      · split
        · exact hc
        · split <;> exact hc

/-- An insertion leaves each unit as the catch-up did, or holding what the image mounts as. -/
theorem Disk.Each.insert (h : d.Each Q) (q : DriveClosed Q) (c : Cfg) (now : Nat) (u : Fin 4)
    (image : Option Image) (wp : Bool)
    (mounts : ∀ img dr, mountImage img wp (d.catchUp c now).drives[u].headTrack = some dr → Q dr) :
    (d.insert c now u image wp).1.Each Q := by
  unfold Disk.insert
  split
  · exact h
  · rename_i dr hdr
    obtain ⟨img, -, hmount⟩ := Option.bind_eq_some_iff.mp hdr
    exact (h.catchUp q c now).set u (mounts img dr hmount) _

theorem Disk.Each.eject (h : d.Each Q) (q : DriveClosed Q) (c : Cfg) (now : Nat) (u : Fin 4)
    (empty : ∀ dr : Drive, Q dr → Q { Drive.empty with headTrack := dr.headTrack }) :
    (d.eject c now u).Each Q :=
  have hc := h.catchUp q c now
  hc.set u (empty _ (hc u)) _

end

/-! ## The images of the drives -/

/-- The drive's image is in canonical form. -/
def Drive.wf (dr : Drive) : Prop := Memory.wf dr.image.cells = true

theorem drive_wf_closed : DriveClosed Drive.wf where
  write dr off v h := image_write_wf dr.image h off v
  head _ _ h := h

/-- A mounted image holds the bytes of the host's image in normal form. -/
theorem mountImage_wf {img : Image} {wp : Bool} {head : Nat} {dr : Drive}
    (h : mountImage img wp head = some dr) : dr.wf := by
  have normal : dr.image.cells = img.normal.cells := by
    unfold mountImage at h
    dsimp only at h
    (repeat' split at h) <;> cases h <;> rfl
  unfold Drive.wf
  rw [normal]
  exact image_normal_wf img

/-! ## The step -/

theorem memoryForm_iff (s : State) : MemoryForm s ↔
    Memory.wf s.ram = true ∧ Memory.wf s.rom = true ∧ s.framebuffer.wf ∧ s.disk.Each Drive.wf
      ∧ s.tape.wf := Iff.rfl

theorem memoryForm_advance (k : Nat) {s : State} (h : MemoryForm s) : MemoryForm (advance k s) := by
  obtain ⟨hram, hrom, hfb, hdisk, htape⟩ := (memoryForm_iff s).mp h
  exact ⟨hram, hrom, paintSpan_wf _ _ _ _ hfb, hdisk, htape⟩

theorem memoryForm_writeByte (a : Word) (v : Byte) {s : State} (h : MemoryForm s) :
    MemoryForm (s.writeByte a v) := by
  obtain ⟨hram, rest⟩ := h
  exact ⟨writeThrough_wf s.paging s.ram hram a v, rest⟩

theorem memoryForm_wdCommand (v : Byte) {s : State} (h : MemoryForm s) : MemoryForm (wdCommand v s) := by
  obtain ⟨hram, hrom, hfb, hdisk, htape⟩ := (memoryForm_iff s).mp h
  exact ⟨hram, hrom, hfb, hdisk.portWrite drive_wf_closed _ _ _ _, htape⟩

theorem memoryForm_portRead (p : Word) {s : State} (h : MemoryForm s) : MemoryForm (portRead p s).2 := by
  obtain ⟨hram, hrom, hfb, hdisk, htape⟩ := (memoryForm_iff s).mp h
  unfold portRead
  split
  · exact ⟨hram, hrom, hfb, hdisk.portRead drive_wf_closed _ _ _, htape⟩
  · split
    · exact ⟨hram, hrom, hfb, hdisk, Tape.wf_of_image (tapeCatchUp_image _ _ _) htape⟩
    · split
      · exact h
      · split <;> exact h

theorem memoryForm_portWrite (p : Word) (v : Byte) {s : State} (h : MemoryForm s) :
    MemoryForm (portWrite p v s) := by
  obtain ⟨hram, hrom, hfb, hdisk, htape⟩ := (memoryForm_iff s).mp h
  unfold portWrite
  split
  · exact ⟨hram, hrom, hfb, hdisk.portWrite drive_wf_closed _ _ _ _, htape⟩
  · unfold portWriteAy portWritePaging portWriteUla
    (repeat' split) <;> exact h

/-- What an instruction is made of keeps the memories' form. -/
theorem memoryForm_closed : Closed MemoryForm where
  cpu _ _ h := h
  time _ k h := memoryForm_advance k h
  fetchPg _ _ h := h
  store _ a v h := memoryForm_writeByte a v h
  portIn _ p h := memoryForm_portRead p h
  portOut _ p v h := memoryForm_portWrite p v h
  draw _ _ h := h
  wd _ v h := memoryForm_wdCommand v h

theorem memoryForm_endOfFrame (s : State) (h : MemoryForm s) : MemoryForm (endOfFrame s) := by
  obtain ⟨hram, hrom, hfb, hdisk, htape⟩ := (memoryForm_iff s).mp h
  exact ⟨hram, hrom, hfb, hdisk.catchUp drive_wf_closed _ _,
    Tape.wf_of_image (tapeCatchUp_image _ _ _) htape⟩

theorem memoryForm_machineReset (s : State) : MemoryForm s → MemoryForm (machineReset s) := by
  rintro ⟨hram, hrom, -, hdisk, htape⟩
  refine ⟨hram, hrom, rfl, fun u => ?_, htape⟩
  simpa [machineReset] using hdisk u

theorem memoryForm_applyAction (a : HostAction) (s : State) (h : MemoryForm s) :
    MemoryForm (applyAction a s) := by
  obtain ⟨hram, hrom, hfb, hdisk, htape⟩ := (memoryForm_iff s).mp h
  unfold applyAction
  cases a with
  | frameStep | setKeys _ | pulseNmi => exact h
  | setKempston b => dsimp only; split <;> exact h
  | insertDisk u image wp =>
    dsimp only
    split
    · exact ⟨hram, hrom, hfb,
        hdisk.insert drive_wf_closed _ _ _ image wp fun _ _ hm => mountImage_wf hm, htape⟩
    · exact h
  | ejectDisk u =>
    dsimp only
    split
    · exact ⟨hram, hrom, hfb, hdisk.eject drive_wf_closed _ _ _ fun _ _ => rfl, htape⟩
    · exact h
  | tapeInsert image => exact ⟨hram, hrom, hfb, hdisk, tapeInsert_wf _ _ image htape⟩
  | tapePlay => exact ⟨hram, hrom, hfb, hdisk, Tape.wf_of_image (tapePlay_image _ _ _) htape⟩
  | tapeStop => exact ⟨hram, hrom, hfb, hdisk, Tape.wf_of_image (tapeStop_image _ _ _) htape⟩
  | loadSnapshot snap =>
    dsimp only
    split
    · exact ⟨memSetAll_wf _ _ rfl, hrom, hfb, hdisk, htape⟩
    · exact h
  | reset => exact memoryForm_machineReset s h

/-- Settles O21: every change a step is made of keeps the canonical form of each memory. -/
theorem stepKeepsMemoryForm : Obligations.StepKeepsMemoryForm :=
  fun _ _ h hst => step_closed memoryForm_closed memoryForm_applyAction (fun _ _ h => h) (fun _ h => h)
    memoryForm_endOfFrame hst h

end Sys2Proof.Machine
end

section
/-! The register file: what each write changes, and what each read returns after it (10 R30, R31, R33; 30 R182,
R183, R192, R196). -/

namespace Sys2Proof.Machine

/-! ## 8-bit registers -/

theorem setReg_eq (c : Cpu) (r : Reg8) (v : Byte) : c.setReg r v =
    { c with b := if r = .b then v else c.b, c := if r = .c then v else c.c,
             d := if r = .d then v else c.d, e := if r = .e then v else c.e,
             h := if r = .h then v else c.h, l := if r = .l then v else c.l,
             a := if r = .a then v else c.a } := by
  cases r <;> rfl

theorem reg_setReg (c : Cpu) (r r2 : Reg8) (v : Byte) :
    (c.setReg r v).reg r2 = if r2 = r then v else c.reg r2 := by
  rw [setReg_eq]
  cases r2 <;> simp only [Cpu.reg, @eq_comm _ _ r]

/-! ## Pairs -/

section
variable (c : Cpu) (w : Word)

@[simp] theorem bc_setBc : (c.setBc w).bc = w := mkWord_hiByte_loByte w
@[simp] theorem de_setDe : (c.setDe w).de = w := mkWord_hiByte_loByte w
@[simp] theorem hl_setHl : (c.setHl w).hl = w := mkWord_hiByte_loByte w
@[simp] theorem af_setAf : (c.setAf w).af = w := mkWord_hiByte_loByte w

end

/-- The pair written is read back by its own lemma; another pair lies in other fields. -/
theorem pair_setPair (c : Cpu) (p q : RegPair) (w : Word) :
    (c.setPair p w).pair q = if q = p then w else c.pair q := by
  cases p <;> cases q <;> simp [Cpu.setPair, Cpu.pair] <;> rfl

theorem stackPair_setStackPair (c : Cpu) (p q : StackPair) (w : Word) :
    (c.setStackPair p w).stackPair q = if q = p then w else c.stackPair q := by
  cases p <;> cases q <;> simp [Cpu.setStackPair, Cpu.stackPair] <;> rfl

theorem setPair_frame (c : Cpu) (p : RegPair) (w : Word) : c.setPair p w =
    { c with b := (c.setPair p w).b, c := (c.setPair p w).c, d := (c.setPair p w).d,
             e := (c.setPair p w).e, h := (c.setPair p w).h, l := (c.setPair p w).l,
             sp := (c.setPair p w).sp } := by
  cases p <;> rfl

theorem setStackPair_frame (c : Cpu) (p : StackPair) (w : Word) : c.setStackPair p w =
    { c with a := (c.setStackPair p w).a, f := (c.setStackPair p w).f, b := (c.setStackPair p w).b,
             c := (c.setStackPair p w).c, d := (c.setStackPair p w).d, e := (c.setStackPair p w).e,
             h := (c.setStackPair p w).h, l := (c.setStackPair p w).l } := by
  cases p <;> rfl

/-! ## Index registers and their halves -/

theorem setIdx_eq (c : Cpu) (i : Idx) (w : Word) : c.setIdx i w =
    { c with ix := if i = .ix then w else c.ix, iy := if i = .iy then w else c.iy } := by
  cases i <;> rfl

theorem idx_setIdx (c : Cpu) (i j : Idx) (w : Word) :
    (c.setIdx i w).idx j = if j = i then w else c.idx j := by
  rw [setIdx_eq]
  cases j <;> simp only [Cpu.idx, @eq_comm _ _ i]

theorem half_setHalf (c : Cpu) (i j : Idx) (h k : Half) (v : Byte) :
    (c.setHalf i h v).half j k = if j = i ∧ k = h then v else c.half j k := by
  by_cases hj : j = i
  · subst hj
    cases h <;> cases k <;> simp [Cpu.setHalf, Cpu.half, idx_setIdx]
  · cases h <;> cases k <;> simp [Cpu.setHalf, Cpu.half, idx_setIdx, hj]

theorem idx_toNat (c : Cpu) (i : Idx) :
    (c.idx i).toNat = 256 * (c.half i .ih).toNat + (c.half i .il).toNat := by
  simp only [Cpu.half, ← mkWord_toNat, mkWord_hiByte_loByte]

theorem setHalf_frame (c : Cpu) (i : Idx) (h : Half) (v : Byte) : c.setHalf i h v =
    { c with ix := (c.setHalf i h v).ix, iy := (c.setHalf i h v).iy } := by
  cases h <;> cases i <;> rfl

theorem setHalfReg_eq (c : Cpu) (i : Idx) (r : HalfReg) (v : Byte) : c.setHalfReg i r v =
    { c with b := if r = .b then v else c.b, c := if r = .c then v else c.c,
             d := if r = .d then v else c.d, e := if r = .e then v else c.e,
             a := if r = .a then v else c.a,
             ix := if (r = .ih ∨ r = .il) ∧ i = .ix then (c.setHalfReg i r v).ix else c.ix,
             iy := if (r = .ih ∨ r = .il) ∧ i = .iy then (c.setHalfReg i r v).iy else c.iy } := by
  cases r <;> cases i <;> rfl

theorem halfReg_setHalfReg (c : Cpu) (i : Idx) (r q : HalfReg) (v : Byte) :
    (c.setHalfReg i r v).halfReg i q = if q = r then v else c.halfReg i q := by
  cases q with
  | b | c | d | e | a => rw [setHalfReg_eq]; simp only [Cpu.halfReg, @eq_comm _ _ r]
  | ih | il => cases r <;> simp [Cpu.setHalfReg, Cpu.halfReg, half_setHalf] <;> rfl

/-- Settles O27: each write is the field it names, and each read returns it. -/
theorem registerFile : Obligations.RegisterFile :=
  ⟨setReg_eq, reg_setReg, pair_setPair, stackPair_setStackPair, half_setHalf,
    fun c => ⟨mkWord_toNat c.b c.c, mkWord_toNat c.d c.e, mkWord_toNat c.h c.l, rfl, mkWord_toNat c.a c.f⟩,
    idx_toNat, setPair_frame, setStackPair_frame, setHalf_frame,
    fun c i j w => ⟨rfl, rfl, setIdx_eq c i w, idx_setIdx c i j w⟩,
    fun c i r q v => ⟨rfl, halfReg_setHalfReg c i r q v, setHalfReg_eq c i r v⟩,
    fun _ _ => rfl⟩

end Sys2Proof.Machine
end

section
/-! The byte arithmetic on integers, and F flag by flag (10 R32; 41 R300, R302 to R305, R309). -/

namespace Sys2Proof.Machine

theorem bit7_eq_decide (v : Byte) : v.getLsbD 7 = decide (128 ≤ v.toNat) := by
  rw [← BitVec.msb_eq_getLsbD_last v, BitVec.msb_eq_decide]

theorem toInt_eq_ite (v : Byte) : v.toInt = if 128 ≤ v.toNat then (v.toNat : Int) - 256 else v.toNat := by
  rw [BitVec.toInt_eq_toNat_cond]
  split <;> split <;> omega

theorem szxyF_eq (v : Byte) (h pv n c : Bool) :
    szxyF v h pv n c = packF v.msb (decide (v = 0)) (v.getLsbD 5) h (v.getLsbD 3) pv n c := by
  rw [BitVec.msb_eq_getLsbD_last]
  rfl

theorem packF_bits (s z y h x pv n c : Bool) :
    let f := packF s z y h x pv n c
    [flagS f, flagZ f, flagY f, flagH f, flagX f, flagPV f, flagN f, flagC f]
      = [s, z, y, h, x, pv, n, c] := by
  simp

theorem parity_iff (v : Byte) :
    parity v = true ↔ ((List.range 8).filter fun i => v.getLsbD i).length % 2 = 0 := by
  revert v
  decide

theorem bit01_le_one (c : Bool) : bit01 c ≤ 1 := by
  cases c <;> decide

theorem addByte_toNat (a v : Byte) (c : Bool) :
    (addByte a v c).1.toNat = (a.toNat + v.toNat + bit01 c) % 256 := by
  simp only [addByte, byteOf, BitVec.toNat_ofNat]

theorem subByte_toNat (a v : Byte) (c : Bool) :
    (subByte a v c).1.toNat = (a.toNat + 512 - v.toNat - bit01 c) % 256 := by
  have := bit01_le_one c
  simp only [subByte, byteOf, BitVec.toNat_sub, BitVec.toNat_ofNat]
  omega

/-- The signs of the operands agree and the result's does not: the signed sum is out of range. -/
theorem addByte_overflow (a v : Byte) (c : Bool) :
    (a.getLsbD 7 == v.getLsbD 7 && (addByte a v c).1.getLsbD 7 != a.getLsbD 7)
      = decide (a.toInt + v.toInt + bit01 c < -128 ∨ 127 < a.toInt + v.toInt + bit01 c) := by
  have hc := bit01_le_one c
  have ha := a.isLt
  have hv := v.isLt
  rw [Bool.eq_iff_iff]
  simp only [bit7_eq_decide, toInt_eq_ite, addByte_toNat, Bool.and_eq_true, beq_iff_eq, bne_iff_ne, ne_eq,
    decide_eq_decide, decide_eq_true_eq]
  split <;> split <;> omega

theorem subByte_overflow (a v : Byte) (c : Bool) :
    (a.getLsbD 7 != v.getLsbD 7 && (subByte a v c).1.getLsbD 7 != a.getLsbD 7)
      = decide (a.toInt - v.toInt - bit01 c < -128 ∨ 127 < a.toInt - v.toInt - bit01 c) := by
  have hc := bit01_le_one c
  have ha := a.isLt
  have hv := v.isLt
  rw [Bool.eq_iff_iff]
  simp only [bit7_eq_decide, toInt_eq_ite, subByte_toNat, Bool.and_eq_true, bne_iff_ne, ne_eq, decide_eq_decide,
    decide_eq_true_eq]
  split <;> split <;> omega

/-- F of an addition, flag by flag. -/
theorem addByte_flags (a v : Byte) (c : Bool) :
    (addByte a v c).2 = packF (addByte a v c).1.msb (decide ((addByte a v c).1 = 0))
      ((addByte a v c).1.getLsbD 5) (decide (15 < a.toNat % 16 + v.toNat % 16 + bit01 c))
      ((addByte a v c).1.getLsbD 3)
      (decide (a.toInt + v.toInt + bit01 c < -128 ∨ 127 < a.toInt + v.toInt + bit01 c))
      false (decide (255 < a.toNat + v.toNat + bit01 c)) := by
  rw [← addByte_overflow, ← szxyF_eq]
  rfl

/-- F of a subtraction, flag by flag. -/
theorem subByte_flags (a v : Byte) (c : Bool) :
    (subByte a v c).2 = packF (subByte a v c).1.msb (decide ((subByte a v c).1 = 0))
      ((subByte a v c).1.getLsbD 5) (decide (a.toNat % 16 < v.toNat % 16 + bit01 c))
      ((subByte a v c).1.getLsbD 3)
      (decide (a.toInt - v.toInt - bit01 c < -128 ∨ 127 < a.toInt - v.toInt - bit01 c))
      true (decide (a.toNat < v.toNat + bit01 c)) := by
  rw [← subByte_overflow, ← szxyF_eq]
  rfl

/-- Without a borrow in, the difference is 0 exactly for equal operands. -/
theorem subByte_eq_zero_iff (a v : Byte) : (subByte a v false).1 = 0 ↔ a = v := by
  have diff : (subByte a v false).1 = a - v := BitVec.sub_zero _
  rw [diff]
  constructor <;> intro h <;> bv_omega

/-- The flags of a packed F, read one by one. -/
theorem flags_of_eq_packF {f : Byte} {s z y h x pv n c : Bool} (hf : f = packF s z y h x pv n c) :
    flagS f = s ∧ flagZ f = z ∧ flagY f = y ∧ flagX f = x ∧ flagH f = h ∧ flagPV f = pv ∧ flagN f = n
      ∧ flagC f = c := by
  simp [hf]

/-- F of a compare, flag by flag. -/
theorem compareF_flags (a v : Byte) :
    compareF a v = packF (flagS (subByte a v false).2) (decide (a = v)) (v.getLsbD 5)
      (flagH (subByte a v false).2) (v.getLsbD 3) (flagPV (subByte a v false).2) true
      (decide (a.toNat < v.toNat)) := by
  obtain ⟨-, zero, -, -, -, -, sub, carry⟩ := flags_of_eq_packF (subByte_flags a v false)
  simp only [compareF, zero, sub, carry, subByte_eq_zero_iff]
  rfl

/-- Settles O34: each flag of `packF` is the argument at its place, and the signed overflow follows from the
signs of the operands and the result. -/
theorem byteArithmetic : Obligations.ByteArithmetic :=
  ⟨fun s z y h x pv n c => ⟨packF_bits s z y h x pv n c, packF_bits s z y h x pv n c⟩,
    fun v h pv n c => ⟨szxyF_eq v h pv n c, parity_iff v⟩,
    fun a v c => ⟨addByte_toNat a v c, flags_of_eq_packF (addByte_flags a v c)⟩,
    fun a v c => ⟨subByte_toNat a v c, flags_of_eq_packF (subByte_flags a v c)⟩,
    fun a v => flags_of_eq_packF (compareF_flags a v)⟩

end Sys2Proof.Machine
end

section
/-! What a port access changes (20 R106, R140, R141; 45 R500 to R503; 46 R551, R552). -/

namespace Sys2Proof.Machine

theorem betaSelected_iff (s : State) (p : Word) : betaSelected s p = true ↔ betaTakes s p := by
  simp [betaSelected, betaTakes, isBetaPort, and_assoc, or_assoc]

theorem isUlaPort_iff (p : Word) : isUlaPort p = true ↔ p.getLsbD 0 = false := by
  simp only [isUlaPort, Bool.not_eq_true']

theorem isAySelectPort_iff (p : Word) : isAySelectPort p = true ↔
    p.getLsbD 15 = true ∧ p.getLsbD 14 = true ∧ p.getLsbD 1 = false := by
  simp only [isAySelectPort, Bool.and_eq_true, Bool.not_eq_true', and_assoc]

/-! ## Reads -/

/-- A port read changes the disk side or the tape alone. -/
theorem portRead_frame (p : Word) (s : State) : (portRead p s).2
    = { s with disk := (portRead p s).2.disk, tape := (portRead p s).2.tape } := by
  unfold portRead
  (repeat' split) <;> rfl

theorem portRead_betadisk {p : Word} {s : State} (h : betaTakes s p) :
    portRead p s = ((s.disk.portRead s.cfg s.clock.absTime (loByte p)).1,
      { s with disk := (s.disk.portRead s.cfg s.clock.absTime (loByte p)).2 }) := by
  unfold portRead
  rw [if_pos ((betaSelected_iff s p).mpr h)]

section
variable {p : Word} {s : State} (hb : ¬ betaTakes s p)
include hb

theorem portRead_ula (h0 : p.getLsbD 0 = false) : portRead p s = ulaRead p s := by
  unfold portRead
  rw [if_neg (mt (betaSelected_iff s p).mp hb), if_pos ((isUlaPort_iff p).mpr h0)]

/-- Past the Betadisk interface and the ULA: the AY, the joystick, the floating bus. -/
theorem portRead_odd (h0 : p.getLsbD 0 = true) : portRead p s =
    if (archConfig s.cfg).hasAy && isAySelectPort p then (s.ay.read, s)
    else if s.cfg.kempston && loByte p == 0x1F then (s.ula.kempston, s)
    else (floatingBus s s.clock.tstates, s) := by
  unfold portRead
  rw [if_neg (mt (betaSelected_iff s p).mp hb), if_neg (by simp [isUlaPort_iff, h0])]

end

/-- One half-row: a key bit stays 1 when the row's address line is high or its key is up. -/
theorem keyRow_getLsbD (u : Ula) (p : Word) (k : Fin 8) (acc : BitVec 5) (j : Nat) :
    (keyRow u p k acc).getLsbD j
      = (acc.getLsbD j && (p.getLsbD (8 + k.val) || u.keyMatrix[k].getLsbD j)) := by
  unfold keyRow
  split <;> simp_all

/-- A key bit is 1 when its key is up in each half-row whose address line is low (45 R502). -/
theorem keysRead_getLsbD (u : Ula) (p : Word) (j : Nat) (hj : j < 5) : (keysRead u p).getLsbD j
    = decide (∀ k : Fin 8, p.getLsbD (8 + k.val) = false → u.keyMatrix[k].getLsbD j = true) := by
  have ones : (0x1F : BitVec 5).getLsbD j = true := by
    revert j
    decide
  have rows (k : Fin 8) : (p.getLsbD (8 + k.val) = false → u.keyMatrix[k].getLsbD j = true)
      ↔ (p.getLsbD (8 + k.val) || u.keyMatrix[k].getLsbD j) = true := by
    cases p.getLsbD (8 + k.val) <;> simp
  rw [Bool.eq_iff_iff, decide_eq_true_eq]
  simp only [rows, Fin.forall_fin_succ, keysRead, keyRow_getLsbD, ones, Bool.and_eq_true]
  simp [and_assoc]

theorem ulaValue_bits (t : Tape) (u : Ula) (p : Word) :
    (ulaValue t u p).getLsbD 7 = true ∧ (ulaValue t u p).getLsbD 5 = true
      ∧ (ulaValue t u p).getLsbD 6 = earIn t u
      ∧ ∀ j, j < 5 → (ulaValue t u p).getLsbD j = (keysRead u p).getLsbD j := by
  unfold ulaValue
  generalize earIn t u = e
  generalize keysRead u p = k
  revert e k
  decide

theorem earIn_eq (t : Tape) (u : Ula) : earIn t u = if t.status = .loading then t.earBit else u.earOut := by
  unfold earIn
  cases t.status <;> rfl

theorem ayRead_of_lt (ay : Ay) (i : Fin 14) (h : ay.selected.toNat = i.val) : ay.read = ay.regs[i] := by
  simp [Ay.read, Ay.reg, h]

theorem ayRead_of_gt (ay : Ay) (h : 13 < ay.selected.toNat) : ay.read = 0xFF := by
  unfold Ay.read Ay.reg
  rw [dif_neg (by omega)]

/-- Settles O46: the branches of the read table, in order. -/
theorem portReads : Obligations.PortReads := by
  intro p s r ayPort
  have ay_iff : ayPort ↔ ((archConfig s.cfg).hasAy && isAySelectPort p) = true := by
    rw [Bool.and_eq_true, isAySelectPort_iff]
  refine ⟨portRead_betadisk, fun hb h0 => ?_, fun hb h0 hay => ?_, fun hb h0 hay h13 => ?_,
    fun hb h0 hay hk hp => ?_, fun hb h0 hay hk => ?_⟩
  · have hr : r = ulaRead p s := portRead_ula hb h0
    obtain ⟨bit7, bit5, ear, keys⟩ := ulaValue_bits (s.tape.catchUp s.cfg s.clock.absTime) s.ula p
    rw [hr]
    exact ⟨rfl, bit7, bit5, ear.trans (earIn_eq _ _),
      fun j hj => (keys j hj).trans (keysRead_getLsbD s.ula p j hj)⟩
  · have hr : r = (s.ay.read, s) := (portRead_odd hb h0).trans (if_pos (ay_iff.mp hay))
    rw [hr]
    exact ⟨rfl, ayRead_of_lt s.ay⟩
  · have hr : r = (s.ay.read, s) := (portRead_odd hb h0).trans (if_pos (ay_iff.mp hay))
    rw [hr]
    exact ayRead_of_gt s.ay h13
  · have joystick : (s.cfg.kempston && loByte p == 0x1F) = true := by simp [hk, hp]
    exact (portRead_odd hb h0).trans ((if_neg (mt ay_iff.mpr hay)).trans (if_pos joystick))
  · have noJoystick : ¬ (s.cfg.kempston && loByte p == 0x1F) = true := by
      rw [Bool.and_eq_true, beq_iff_eq, not_and_or, Bool.not_eq_true]
      exact hk
    exact (portRead_odd hb h0).trans ((if_neg (mt ay_iff.mpr hay)).trans (if_neg noJoystick))

/-! ## Writes -/

theorem portWriteUla_eq (p : Word) (v : Byte) (s : State) :
    portWriteUla p v s = { s with ula := if p.getLsbD 0 = true then s.ula else ulaWrite v s.ula } := by
  unfold portWriteUla isUlaPort
  cases p.getLsbD 0 <;> rfl

/-- The paging latch takes a write where the machine has one, the port decodes and bit 5 is clear: the truth
table of these bits. -/
theorem portWritePaging_eq (p : Word) (v : Byte) (s : State) :
    portWritePaging p v s = { s with
      paging :=
        if (archConfig s.cfg).hasPaging = true ∧ p.getLsbD 15 = false ∧ p.getLsbD 1 = false
          ∧ s.paging.port7FFD.getLsbD 5 = false
        then pageTable s.cfg v s.paging.trdosActive else s.paging } := by
  unfold portWritePaging isPagingPort pagingWrite
  cases (archConfig s.cfg).hasPaging <;> cases p.getLsbD 15 <;> cases p.getLsbD 1 <;>
    cases s.paging.port7FFD.getLsbD 5 <;> rfl

/-- The AY takes a write where the machine has one: the truth table of the bits its two ports decode. -/
theorem portWriteAy_eq (p : Word) (v : Byte) (s : State) :
    portWriteAy p v s = { s with
      ay :=
        if (archConfig s.cfg).hasAy = true ∧ p.getLsbD 15 = true ∧ p.getLsbD 1 = false then
          (if p.getLsbD 14 then { s.ay with selected := v } else s.ay.write s.cfg s.clock.tstates v)
        else s.ay } := by
  unfold portWriteAy isAySelectPort isAyDataPort
  cases (archConfig s.cfg).hasAy <;> cases p.getLsbD 15 <;> cases p.getLsbD 14 <;>
    cases p.getLsbD 1 <;> rfl

theorem portWrite_betadisk {p : Word} {s : State} (h : betaTakes s p) (v : Byte) :
    portWrite p v s = { s with disk := s.disk.portWrite s.cfg s.clock.absTime (loByte p) v } := by
  unfold portWrite
  rw [if_pos ((betaSelected_iff s p).mpr h)]

/-- The three latches are written one after another, and none decides another's write. -/
theorem portWrite_other {p : Word} {s : State} (h : ¬ betaTakes s p) (v : Byte) :
    portWrite p v s = portWriteAy p v (portWritePaging p v (portWriteUla p v s)) := by
  unfold portWrite
  rw [if_neg (mt (betaSelected_iff s p).mp h)]

/-- Settles O47: the Betadisk interface alone, or each latch as its line of the write table says. -/
theorem portWrites : Obligations.PortWrites := by
  refine fun p v s => ⟨fun hb => portWrite_betadisk hb v, fun hb => ?_⟩
  rw [portWrite_other hb, portWriteUla_eq, portWritePaging_eq, portWriteAy_eq]
  rfl

theorem portWrite_paging {p : Word} {s : State} (h : ¬ betaTakes s p) (v : Byte) :
    (portWrite p v s).paging =
      if (archConfig s.cfg).hasPaging = true ∧ p.getLsbD 15 = false ∧ p.getLsbD 1 = false
        ∧ s.paging.port7FFD.getLsbD 5 = false
      then pageTable s.cfg v s.paging.trdosActive else s.paging := by
  rw [portWrite_other h, portWriteUla_eq, portWritePaging_eq, portWriteAy_eq]

/-- A port write changes the ULA, the page table, the AY and the disk side alone. -/
theorem portWrite_frame (p : Word) (v : Byte) (s : State) : portWrite p v s =
    { s with ula := (portWrite p v s).ula, paging := (portWrite p v s).paging, ay := (portWrite p v s).ay,
             disk := (portWrite p v s).disk } := by
  by_cases hb : betaTakes s p
  · rw [portWrite_betadisk hb]
  · rw [portWrite_other hb, portWriteUla_eq, portWritePaging_eq, portWriteAy_eq]

/-- The page table after a port write is the one before it, or the one of the byte written to the unlocked
latch. -/
theorem portWrite_paging_cases (p : Word) (v : Byte) (s : State) : (portWrite p v s).paging = s.paging
    ∨ s.paging.port7FFD.getLsbD 5 = false
      ∧ (portWrite p v s).paging = pageTable s.cfg v s.paging.trdosActive := by
  by_cases hb : betaTakes s p
  · rw [portWrite_betadisk hb]
    exact .inl rfl
  · rw [portWrite_paging hb]
    split
    case isTrue taken => exact .inr ⟨taken.2.2.2, rfl⟩
    case isFalse => exact .inl rfl

end Sys2Proof.Machine
end

section
/-! What every step keeps of the page table, the clocks, the ROM images and the configuration (20 R104 to R106;
10 R38; 00 R9). -/

namespace Sys2Proof.Machine

/-! ## The page table -/

theorem fetchPaging_cases (c : Cfg) (p : Paging) (a : Word) : fetchPaging c p a = p
    ∨ fetchPaging c p a = pageTable c p.port7FFD (trdosAfterFetch c p a) := by
  unfold fetchPaging
  split
  · exact .inl rfl
  · exact .inr rfl

/-- An opcode fetch moves the TR-DOS flag, never the latch. -/
@[simp] theorem fetchPaging_port7FFD (c : Cfg) (p : Paging) (a : Word) :
    (fetchPaging c p a).port7FFD = p.port7FFD := by
  obtain h | h := fetchPaging_cases c p a <;> rw [h]
  rfl

/-- The latch holds `v`. -/
def LatchIs (v : Byte) (s : State) : Prop := s.paging.port7FFD = v

/-- A locked latch holds its value through everything an instruction is made of. -/
theorem latchIs_closed {v : Byte} (locked : v.getLsbD 5 = true) : Closed (LatchIs v) where
  cpu _ _ h := h
  time _ _ h := h
  fetchPg s a h := (fetchPaging_port7FFD s.cfg s.paging a).trans h
  store _ _ _ h := h
  portIn s p h := by
    rw [portRead_frame]
    exact h
  portOut s p w h := by
    obtain same | ⟨unlocked, -⟩ := portWrite_paging_cases p w s
    · unfold LatchIs
      rwa [same]
    · rw [h, locked] at unlocked
      contradiction
  draw _ _ h := h
  wd _ _ h := h

/-- Settles O16: with no host action due a step is a turn of the frame loop or the end of a frame. -/
theorem pagingLockHolds : Obligations.PagingLockHolds := by
  intro s t locked noAction hst
  obtain ⟨a, rest, hb, hq, -⟩ | ⟨-, turn⟩ | ⟨-, rfl⟩ := step_cases hst
  · simp [hb, hq] at noAction
  · exact loopStep_closed (latchIs_closed locked) (s := s.inFrame) rfl t turn
  · rfl

theorem pageTableForm_pageTable {s : State} {v : Byte} {b : Bool} (h : s.paging = pageTable s.cfg v b) :
    PageTableForm s := by
  unfold PageTableForm
  rw [h]
  rfl

theorem pageTableForm_closed : Closed PageTableForm where
  cpu _ _ h := h
  time _ _ h := h
  fetchPg s a h := by
    obtain same | table := fetchPaging_cases s.cfg s.paging a
    · unfold PageTableForm
      rw [same]
      exact h
    · exact pageTableForm_pageTable table
  store _ _ _ h := h
  portIn s p h := by
    rw [portRead_frame]
    exact h
  portOut s p v h := by
    rw [portWrite_frame]
    obtain same | ⟨-, table⟩ := portWrite_paging_cases p v s
    · unfold PageTableForm
      rw [same]
      exact h
    · exact pageTableForm_pageTable table
  draw _ _ h := h
  wd _ _ h := h

/-! ## The host's actions -/

/-- A host action keeps the page table, or sets it from a latch with TR-DOS paged out. -/
theorem applyAction_paging (a : HostAction) (s : State) : (applyAction a s).paging = s.paging
    ∨ ∃ v, (applyAction a s).paging = pageTable s.cfg v false := by
  unfold applyAction
  cases a with
  | frameStep | setKeys _ | pulseNmi | tapeInsert _ | tapePlay | tapeStop => exact .inl rfl
  | setKempston _ | insertDisk _ _ _ | ejectDisk _ =>
    dsimp only
    split <;> exact .inl rfl
  | loadSnapshot snap =>
    dsimp only
    split
    · exact .inr ⟨_, rfl⟩
    · exact .inl rfl
  | reset => exact .inr ⟨_, rfl⟩

/-- A host action keeps `global_tstates` and `absTime`, or clears both. -/
theorem applyAction_clock (a : HostAction) (s : State) :
    ((applyAction a s).clock.globalTstates = s.clock.globalTstates
        ∧ (applyAction a s).clock.absTime = s.clock.absTime)
      ∨ (applyAction a s).clock = Clock.reset := by
  unfold applyAction
  cases a with
  | frameStep | setKeys _ | pulseNmi | tapeInsert _ | tapePlay | tapeStop => exact .inl ⟨rfl, rfl⟩
  | setKempston _ | insertDisk _ _ _ | ejectDisk _ | loadSnapshot _ =>
    dsimp only
    split <;> exact .inl ⟨rfl, rfl⟩
  | reset => exact .inr rfl

theorem applyAction_rom_cfg (a : HostAction) (s : State) :
    (applyAction a s).rom = s.rom ∧ (applyAction a s).cfg = s.cfg := by
  unfold applyAction
  cases a with
  | frameStep | setKeys _ | pulseNmi | tapeInsert _ | tapePlay | tapeStop | reset => exact ⟨rfl, rfl⟩
  | setKempston _ | insertDisk _ _ _ | ejectDisk _ | loadSnapshot _ =>
    dsimp only
    split <;> exact ⟨rfl, rfl⟩

theorem pageTableForm_applyAction (a : HostAction) (s : State) (h : PageTableForm s) :
    PageTableForm (applyAction a s) := by
  have cfg := (applyAction_rom_cfg a s).2
  obtain same | ⟨v, table⟩ := applyAction_paging a s
  · unfold PageTableForm
    rwa [same, cfg]
  · exact pageTableForm_pageTable (cfg ▸ table)

/-! ## The clocks -/

theorem clockForm_advance (k : Nat) {s : State} (h : ClockForm s) : ClockForm (advance k s) := by
  have sum : s.clock.globalTstates + BitVec.ofNat 24 k = BitVec.ofNat 24 (s.clock.absTime + k) := by
    rw [BitVec.ofNat_add, ← h]
  exact sum

theorem clockForm_closed : Closed ClockForm where
  cpu _ _ h := h
  time _ k h := clockForm_advance k h
  fetchPg _ _ h := h
  store _ _ _ h := h
  portIn s p h := by
    rw [portRead_frame]
    exact h
  portOut s p v h := by
    rw [portWrite_frame]
    exact h
  draw _ _ h := h
  wd _ _ h := h

theorem clockForm_applyAction (a : HostAction) (s : State) (h : ClockForm s) :
    ClockForm (applyAction a s) := by
  unfold ClockForm
  obtain ⟨hglobal, habs⟩ | reset := applyAction_clock a s
  · rwa [hglobal, habs]
  · rw [reset]
    rfl

/-! ## The ROM images and the configuration -/

/-- The ROM images are `rom` and the configuration is `c`. -/
def RomCfgAre (rom : Memory) (c : Cfg) (s : State) : Prop := s.rom = rom ∧ s.cfg = c

theorem romCfgAre_closed (rom : Memory) (c : Cfg) : Closed (RomCfgAre rom c) where
  cpu _ _ h := h
  time _ _ h := h
  fetchPg _ _ h := h
  store _ _ _ h := h
  portIn s p h := by
    rw [portRead_frame]
    exact h
  portOut s p v h := by
    rw [portWrite_frame]
    exact h
  draw _ _ h := h
  wd _ _ h := h

theorem romCfgAre_applyAction {rom : Memory} {c : Cfg} (a : HostAction) (s : State) (h : RomCfgAre rom c s) :
    RomCfgAre rom c (applyAction a s) := by
  obtain ⟨hrom, hcfg⟩ := applyAction_rom_cfg a s
  exact ⟨hrom.trans h.1, hcfg.trans h.2⟩

/-- Settles O22: each part is kept by every change a step is made of. -/
theorem stepKeepsMapClocksAndRom : Obligations.StepKeepsMapClocksAndRom :=
  ⟨fun _ _ h hst => step_closed pageTableForm_closed pageTableForm_applyAction (fun _ _ h => h)
      (fun _ h => h) (fun _ h => h) hst h,
    fun _ _ h hst => step_closed clockForm_closed clockForm_applyAction (fun _ _ h => h) (fun _ h => h)
      (fun _ h => h) hst h,
    fun s _ hst => step_closed (romCfgAre_closed s.rom s.cfg) romCfgAre_applyAction (fun _ _ h => h)
      (fun _ h => h) (fun _ h => h) hst ⟨rfl, rfl⟩⟩

end Sys2Proof.Machine
end

section
/-! The page table and what an address reads as (20 R104 to R108, R112, R122, R123, R160). -/

namespace Sys2Proof.Machine

/-! ## The page table -/

theorem romSel_eq (c : Cfg) (v : Byte) :
    romSel c v = if (archConfig c).hasPaging = true ∧ v.getLsbD 4 = false then .rom0 else .rom1 := by
  unfold romSel
  cases (archConfig c).hasPaging <;> cases v.getLsbD 4 <;> rfl

/-- Every slot of a page table has the contention flag of its page. -/
theorem slotAt_pageTable_contended (c : Cfg) (v : Byte) (trdos : Bool) (a : Word) :
    (slotAt (pageTable c v trdos) a).contended = pageContended c (slotAt (pageTable c v trdos) a).page := by
  unfold slotAt
  split <;> rfl

/-- Settles O15: the slots by definition, the writes by what a port write does to the page table. -/
theorem pagingFollowsTheLatch : Obligations.PagingFollowsTheLatch := by
  refine ⟨fun c v trdos => ⟨?_, rfl, rfl, rfl, slotAt_pageTable_contended c v trdos⟩,
    fun s p v paging h15 h1 hb => ?_, fun s p v hp => ?_⟩
  · rw [← romSel_eq]
    rfl
  · rw [← Bool.not_eq_true, betaSelected_iff] at hb
    rw [portWrite_paging hb]
    cases s.paging.port7FFD.getLsbD 5 <;> simp only [paging, h15, h1] <;> rfl
  · by_cases hb : betaTakes s p
    · rw [portWrite_betadisk hb]
    · rw [portWrite_paging hb, if_neg]
      rintro ⟨paging, h15, h1, -⟩
      rw [paging, h15, h1] at hp
      simp at hp

/-! ## TR-DOS paging -/

theorem hiByte_eq_iff (a : Word) (v : Byte) : hiByte a = v ↔ a.toNat / 256 = v.toNat := by
  rw [← hiByte_toNat, BitVec.toNat_inj]

section
variable {c : Cfg} {pg : Paging}

theorem trdosAfterFetch_of_no_betadisk (h : c.betadisk = false) (a : Word) :
    trdosAfterFetch c pg a = pg.trdosActive := by
  simp [trdosAfterFetch, h]

/-- Paged out, TR-DOS comes in by a fetch in page 0x3D with ROM 1 selected. -/
theorem trdosAfterFetch_of_inactive (h : c.betadisk = true) (inactive : pg.trdosActive = false) (a : Word) :
    trdosAfterFetch c pg a = decide (hiByte a = 0x3D ∧ romSel c pg.port7FFD = .rom1) := by
  have page : (a.toNat / 256 == 0x3D) = decide (hiByte a = 0x3D) := by
    rw [Bool.eq_iff_iff, beq_iff_eq, decide_eq_true_eq, hiByte_eq_iff]
    rfl
  rw [trdosAfterFetch, h, inactive, page, Bool.decide_and]
  cases decide (hiByte a = 0x3D) <;> cases romSel c pg.port7FFD <;> rfl

/-- Paged in, TR-DOS goes out by a fetch at or above 0x4000. -/
theorem trdosAfterFetch_of_active (h : c.betadisk = true) (active : pg.trdosActive = true) (a : Word) :
    trdosAfterFetch c pg a = decide (a.toNat < 0x4000) := by
  simp only [trdosAfterFetch, h, active, ← Nat.not_lt]
  by_cases low : a.toNat < 0x4000 <;> simp [low]

theorem fetchPaging_of_same {a : Word} (h : trdosAfterFetch c pg a = pg.trdosActive) :
    fetchPaging c pg a = pg := if_pos h

theorem fetchPaging_of_ne {a : Word} {b : Bool} (h : trdosAfterFetch c pg a = b) (hb : b ≠ pg.trdosActive) :
    fetchPaging c pg a = pageTable c pg.port7FFD b := by
  subst h
  exact if_neg hb

end

/-- Settles O17: the test of the fetch, decided in each clause. -/
theorem trdosPagingAtFetch : Obligations.TrdosPagingAtFetch := by
  refine ⟨fun s a beta inactive page rom1 => ?_, fun s a beta active high => ?_, fun s a h => ?_⟩ <;>
    rw [fetch_paging]
  · have on := trdosAfterFetch_of_inactive beta inactive a
    rw [decide_eq_true ⟨page, rom1⟩] at on
    exact fetchPaging_of_ne on (by simp [inactive])
  · have off := trdosAfterFetch_of_active beta active a
    rw [decide_eq_false (Nat.not_lt.mpr high)] at off
    exact fetchPaging_of_ne off (by simp [active])
  · apply fetchPaging_of_same
    cases beta : s.cfg.betadisk with
    | false => exact trdosAfterFetch_of_no_betadisk beta a
    | true =>
      obtain noBeta | ⟨inactive, other⟩ | ⟨active, low⟩ := h
      · simp [beta] at noBeta
      · rw [trdosAfterFetch_of_inactive beta inactive, inactive, decide_eq_false_iff_not, not_and_or]
        exact other
      · rw [trdosAfterFetch_of_active beta active, active, decide_eq_true low]

/-! ## Loads and stores -/

theorem readThrough_of_storePlace {pg : Paging} {b : Word} {q : Nat} (h : storePlace pg b = some q)
    (rom ram : Memory) : readThrough pg rom ram b = memGet ram q := by
  unfold storePlace at h
  unfold readThrough
  split at h <;> cases h
  rfl

/-- Where no store lands, RAM is not read. -/
theorem readThrough_of_noPlace {pg : Paging} {b : Word} (h : storePlace pg b = none)
    (rom ram ram' : Memory) : readThrough pg rom ram b = readThrough pg rom ram' b := by
  unfold storePlace at h
  unfold readThrough
  split at h <;> cases h
  rfl

/-- Settles O18: an address that a store can reach reads the byte of RAM at its place. -/
theorem storesReadBack : Obligations.StoresReadBack := by
  intro s a b v hwf
  rw [readByte_eq, readByte_eq, writeByte_paging, writeByte_rom, writeByte_ram]
  cases hb : storePlace s.paging b with
  | none =>
    rw [if_neg fun h => h.2 h.1]
    exact readThrough_of_noPlace hb _ _ _
  | some q =>
    rw [readThrough_of_storePlace hb, readThrough_of_storePlace hb, memGet_writeThrough _ _ hwf]
    by_cases ha : storePlace s.paging a = some q <;> simp [ha]

end Sys2Proof.Machine
end

section
/-! The contention delay, the time of each bus cycle (20 R110 to R112, R120, R124, R130 to R132), and the store to
a ROM, which is its time alone (20 R105). -/

namespace Sys2Proof.Machine

/-! ## The delay -/

/-- The line and the column of a T-state of the frame. -/
theorem line_col_div_mod {tLine col : Nat} (line : Nat) (h : col < tLine) :
    (line * tLine + col) / tLine = line ∧ (line * tLine + col) % tLine = col :=
  (Nat.div_mod_unique (by omega)).mpr ⟨by rw [Nat.mul_comm, Nat.add_comm], h⟩

section
variable {c : Cfg}

theorem delayAt_of_uncontended (h : (archConfig c).hasContention = false) (t : Nat) : delayAt c t = 0 := by
  simp [delayAt, h]

variable {start : Nat} (h : (archConfig c).hasContention = true) (hs : (archConfig c).contStart = some start)
include h hs

theorem delayAt_before {t : Nat} (ht : t < start) : delayAt c t = 0 := by
  simp [delayAt, h, hs, ht]

/-- From CONT_START on the delay is a function of the line and the column. -/
theorem delayAt_from (u : Nat) : delayAt c (start + u) =
    if u / (archConfig c).tLine < 192 ∧ u % (archConfig c).tLine < 128 then
      contPattern (u % (archConfig c).tLine % 8)
    else 0 := by
  simp [delayAt, h, hs, contLines, contCols]

theorem delayAt_line_col {line col : Nat} (hcol : col < (archConfig c).tLine) :
    delayAt c (start + line * (archConfig c).tLine + col)
      = if line < 192 ∧ col < 128 then contPattern (col % 8) else 0 := by
  obtain ⟨hline, hmod⟩ := line_col_div_mod line hcol
  rw [Nat.add_assoc, delayAt_from h hs, hline, hmod]

end

theorem contPattern_eq {k : Nat} (h : k < 8) : contPattern k = [6, 5, 4, 3, 2, 1, 0, 0].getD k 0 := by
  revert k
  decide

/-- Past the frame the 192 lines are over. -/
theorem delayAt_past_frame {c : Cfg} (h : c.arch = .spec48 ∨ c.arch = .spec128) {t : Nat}
    (ht : (archConfig c).tFrame ≤ t) : delayAt c t = 0 := by
  obtain ⟨start, hc, hs, hend, hl⟩ : ∃ start, (archConfig c).hasContention = true
      ∧ (archConfig c).contStart = some start
      ∧ start + 192 * (archConfig c).tLine ≤ (archConfig c).tFrame ∧ 0 < (archConfig c).tLine := by
    obtain h | h := h <;> simp [archConfig, h]
  obtain ⟨u, rfl⟩ := Nat.exists_eq_add_of_le (Nat.le_of_add_right_le (hend.trans ht))
  rw [delayAt_from hc hs, if_neg]
  rintro ⟨hlt, -⟩
  rw [Nat.div_lt_iff_lt_mul hl] at hlt
  omega

theorem oddBanks_get (b : BitVec 3) : oddBanks[b.toNat] = decide (b.toNat % 2 = 1) := by
  revert b
  decide

theorem bit0_eq_odd (b : BitVec 3) : b.getLsbD 0 = decide (b.toNat % 2 = 1) := by
  revert b
  decide

theorem bankContended_fixed {c : Cfg} (b : BitVec 3) (htk : c.arch ≠ .tk) (hplus : c.arch ≠ .plus2A3) :
    bankContended c b = ((archConfig c).hasContention && decide (b.toNat % 2 = 1)) := by
  rw [← bit0_eq_odd]
  unfold bankContended
  split <;> simp_all

theorem bankContended_chosen {c : Cfg} (b : BitVec 3) (h : c.arch = .tk ∨ c.arch = .plus2A3) :
    bankContended c b = ((archConfig c).hasContention && c.contendedBanks[b.toNat]) := by
  unfold bankContended
  split <;> simp_all

/-- The default of CONTENDED_BANKS is the set the other machines have. -/
theorem bankContended_default {c : Cfg} (b : BitVec 3) (h : c.contendedBanks = defaultCfg.contendedBanks) :
    bankContended c b = ((archConfig c).hasContention && decide (b.toNat % 2 = 1)) := by
  by_cases chosen : c.arch = .tk ∨ c.arch = .plus2A3
  · rw [bankContended_chosen b chosen, ← oddBanks_get]
    simp only [h]
    rfl
  · exact bankContended_fixed b (fun e => chosen (.inl e)) (fun e => chosen (.inr e))

/-- Settles O13: the delay by line and column, the banks by architecture. -/
theorem contentionDelay : Obligations.ContentionDelay :=
  ⟨fun _ t h => delayAt_of_uncontended h t,
    fun _ _ _ h hs ht => delayAt_before h hs ht,
    fun _ _ _ _ h hs hcol => by
      rw [delayAt_line_col h hs hcol, contPattern_eq (Nat.mod_lt _ (by decide))],
    fun _ h _ ht => delayAt_past_frame h ht,
    fun _ b htk hplus => bankContended_fixed b htk hplus,
    fun _ b h => bankContended_chosen b h,
    fun _ b h => bankContended_default b h,
    fun _ _ => rfl⟩

/-! ## The cycles -/

@[simp] theorem advance_tstates (k : Nat) (s : State) : (advance k s).clock.tstates = s.clock.tstates + k := rfl

theorem contend_tstates (a : Word) (s : State) : (contend a s).clock.tstates
    = s.clock.tstates + if contendedAt s.cfg s.paging a then delayAt s.cfg s.clock.tstates else 0 := by
  unfold contend
  split <;> rfl

theorem chargeCycle_tstates (a : Word) (n : Nat) (s : State) : (chargeCycle a n s).clock.tstates
    = s.clock.tstates + n + if contendedAt s.cfg s.paging a then delayAt s.cfg s.clock.tstates else 0 := by
  rw [chargeCycle, advance_tstates, contend_tstates, Nat.add_right_comm]

/-- The last T-state of an internal cycle is a cycle of its own. -/
theorem internal_succ (a : Word) (n : Nat) (s : State) :
    internal a (n + 1) s = chargeCycle a 1 (internal a n s) := by
  induction n generalizing s with
  | zero => rfl
  | succ n ih => exact ih (chargeCycle a 1 s)

/-- `C:k`: the delay at its start where the machine has contention, then `k`. -/
theorem ioContended_tstates (k : Nat) (s : State) : (ioContended k s).clock.tstates
    = s.clock.tstates + delayAt s.cfg s.clock.tstates + k := by
  unfold ioContended
  cases h : (archConfig s.cfg).hasContention with
  | false => rw [if_neg (by simp), delayAt_of_uncontended h]; rfl
  | true => rfl

@[simp] theorem ioContended_cfg (k : Nat) (s : State) : (ioContended k s).cfg = s.cfg :=
  (ioContended_timeOnly k s).cfg

theorem contendedAt_of_uncontended {c : Cfg} (h : (archConfig c).hasContention = false) (pg : Paging)
    (a : Word) : contendedAt c pg a = false := by
  simp [contendedAt, h]

theorem chargeIo_tstates (p : Word) (s : State) : (chargeIo p s).clock.tstates =
    let d := fun t => t + delayAt s.cfg t
    let t0 := s.clock.tstates
    match contendedAt s.cfg s.paging p, isUlaPort p with
    | false, true => d (t0 + 1) + 2
    | false, false => t0 + 3
    | true, true => d (d t0 + 1) + 2
    | true, false => d (d (d (d t0 + 1) + 1) + 1) := by
  unfold chargeIo
  cases contendedAt s.cfg s.paging p <;> cases isUlaPort p <;>
    simp [ioContended_tstates]

theorem chargeIo_tstates_uncontended {s : State} (h : (archConfig s.cfg).hasContention = false) (p : Word) :
    (chargeIo p s).clock.tstates = s.clock.tstates + 3 := by
  rw [chargeIo_tstates, contendedAt_of_uncontended h]
  cases isUlaPort p <;> simp [delayAt_of_uncontended h]

theorem ioRead_tstates (p : Word) (s : State) :
    (ioRead p s).2.clock.tstates = (chargeIo p s).clock.tstates + 1 := by
  rw [ioRead, advance_tstates, portRead_frame]

theorem ioWrite_tstates (p : Word) (v : Byte) (s : State) :
    (ioWrite p v s).clock.tstates = (chargeIo p s).clock.tstates + 1 := by
  rw [ioWrite, advance_tstates, portWrite_frame]

/-- Settles O14: each cycle's time is the sum of its parts' times. -/
theorem busCycleTimes : Obligations.BusCycleTimes := by
  refine ⟨⟨chargeCycle_tstates, fun _ _ => rfl, fun a n s => ?_⟩, fun p s h => ?_,
    fun p s _ => chargeIo_tstates p s⟩
  · rw [internal_succ, chargeCycle_tstates, internal_cfg, internal_paging]
  · have time := chargeIo_tstates_uncontended h p
    exact ⟨time, by rw [ioRead_tstates, time], fun v => by rw [ioWrite_tstates, time]⟩

/-! ## Stores to a ROM -/

theorem storePlace_of_rom {pg : Paging} {a : Word} {id : RomId} (h : (slotAt pg a).page = .rom id) :
    storePlace pg a = none := by
  rw [storePlace, h]

theorem writeByte_of_noPlace {s : State} {a : Word} (h : storePlace s.paging a = none) (v : Byte) :
    s.writeByte a v = s := by
  rw [State.writeByte, writeThrough, h]

theorem memWrite_of_rom {s : State} {a : Word} {id : RomId} (h : (slotAt s.paging a).page = .rom id)
    (v : Byte) : memWrite a v s = chargeCycle a 3 s :=
  writeByte_of_noPlace (by rw [chargeCycle_paging, storePlace_of_rom h]) v

/-- Slot 0 alone holds a ROM. -/
theorem slotAt_pageTable_rom_iff (c : Cfg) (v : Byte) (trdos : Bool) (a : Word) :
    (∃ id, (slotAt (pageTable c v trdos) a).page = .rom id) ↔ a.toNat < 0x4000 := by
  have low : a.toNat < 0x4000 ↔ a.toNat / 16384 = 0 := (Nat.div_eq_zero_iff_lt (by decide)).symm
  rw [low]
  unfold slotAt
  split
  · next slot0 => simp [slot0, pageTable, slotFor]
  · next slot1 => simp [slot1, pageTable, slotFor]
  · next slot2 => simp [slot2, pageTable, slotFor]
  · next not0 _ _ => simpa [pageTable, slotFor] using not0

/-- Settles O19: the store is the charge of its cycle, which moves the clocks and the picture alone. -/
theorem romWritesAreDiscarded : Obligations.RomWritesAreDiscarded := by
  refine ⟨fun s a v id h => ?_, fun s a h => ?_⟩
  · rw [memWrite_of_rom h]
    exact ⟨chargeCycle_tstates a 3 s, rfl, chargeCycle_ram a 3 s, chargeCycle_rom a 3 s, fun b => by simp⟩
  · rw [h]
    exact slotAt_pageTable_rom_iff _ _ _ a

end Sys2Proof.Machine
end

section
/-! The floating bus (20 R107, R150, R151). -/

namespace Sys2Proof.Machine

section
variable {c : Cfg} {start : Nat} (hs : (archConfig c).floatStart = some start) (ram : Memory) (bank : BitVec 3)
include hs

/-- Inside the window four T-states of each eight show two columns of the screen, and four show nothing. -/
theorem floatingDisplay_inside (hbus : (archConfig c).hasFloatingBus = true) {y x : Nat} (hy : y < 192)
    (hx : x < 128) (hl : 128 ≤ (archConfig c).tLine) :
    floatingDisplay c ram bank (start + y * (archConfig c).tLine + x) =
      match x % 8 with
      | 0 => bitmapByte ram bank y (2 * (x / 8))
      | 1 => attrByte ram bank y (2 * (x / 8))
      | 2 => bitmapByte ram bank y (2 * (x / 8) + 1)
      | 3 => attrByte ram bank y (2 * (x / 8) + 1)
      | _ => 0xFF := by
  obtain ⟨hline, hmod⟩ := line_col_div_mod y (hx.trans_le hl)
  have hu : start + y * (archConfig c).tLine + x - start = y * (archConfig c).tLine + x := by omega
  have hge : ¬ start + y * (archConfig c).tLine + x < start := by omega
  simp only [floatingDisplay, hs, hbus, hu, hline, hmod, hge, hy, hx, contLines, contCols]
  rfl

theorem floatingDisplay_outside {ts : Nat} (h : ts < start ∨ 192 ≤ (ts - start) / (archConfig c).tLine
    ∨ 128 ≤ (ts - start) % (archConfig c).tLine) : floatingDisplay c ram bank ts = 0xFF := by
  rw [floatingDisplay, hs]
  dsimp only
  split
  · rfl
  · next started =>
    simp only [Bool.or_eq_true, decide_eq_true_eq, not_or] at started
    refine if_neg fun inside => ?_
    rw [Bool.and_eq_true, decide_eq_true_eq, decide_eq_true_eq] at inside
    obtain ⟨hy, hx⟩ : (ts - start) / _ < 192 ∧ (ts - start) % _ < 128 := inside
    omega

end

/-- The machines whose floating bus shows the display. -/
theorem floatingBus_of_display {s : State} (h : s.cfg.arch = .spec48 ∨ s.cfg.arch = .spec128) (ts : Nat) :
    floatingBus s ts = floatingDisplay s.cfg s.ram (screenBank s.cfg s.paging.port7FFD) ts := by
  obtain h | h := h <;> simp [floatingBus, floatVariant, h]

/-- They have the bus, and a line no shorter than the window. -/
theorem archConfig_of_display {c : Cfg} (h : c.arch = .spec48 ∨ c.arch = .spec128) :
    (archConfig c).hasFloatingBus = true ∧ 128 ≤ (archConfig c).tLine := by
  obtain h | h := h <;> simp [archConfig, h]

theorem floatingBus_of_open {s : State} (h : s.cfg.arch = .tk ∨ s.cfg.arch = .plus2A3) (ts : Nat) :
    floatingBus s ts = floatingOpen s ts := by
  obtain h | h := h <;> simp [floatingBus, floatVariant, h]

/-- Settles O48: the display's bytes by column, 0xFF, or the open function, by architecture. -/
theorem floatingBusValues : Obligations.FloatingBusValues := by
  refine ⟨fun s start y x h hs hy hx => ?_, fun s start ts h hs hout => ?_, fun s ts h => ?_,
    fun s ts h => ?_⟩
  · obtain ⟨hbus, hl⟩ := archConfig_of_display h
    rw [floatingBus_of_display h]
    exact floatingDisplay_inside hs _ _ hbus hy hx hl
  · rw [floatingBus_of_display h]
    exact floatingDisplay_outside hs _ _ hout
  · simp [floatingBus, floatVariant, h]
  · exact floatingBus_of_open h ts

end Sys2Proof.Machine
end

section
/-! What the decoder never answers: a WD1793 command (30 R205; log 12). -/

namespace Sys2Proof

/-- The instruction decoded, if there is one, is a Z80 instruction. -/
def Decoded.Z80 (d : Decoded) : Prop := ∀ i rest, d = .ok (i, rest) → i.isWdCommand = false

section
variable {rest : List Byte}

theorem Decoded.z80_ok {i : Instr} (h : i.isWdCommand = false) : Decoded.Z80 (.ok (i, rest)) := by
  rintro _ _ ⟨⟩
  exact h

theorem Decoded.z80_error (e : DecodeError) : Decoded.Z80 (.error e) := by
  rintro _ _ ⟨⟩

theorem take0_z80 {i : Instr} (h : i.isWdCommand = false) : (take0 i rest).Z80 := Decoded.z80_ok h

theorem take1_z80 {f : Byte → Instr} (h : ∀ n, (f n).isWdCommand = false) : (take1 f rest).Z80 := by
  unfold take1
  split
  · exact Decoded.z80_ok (h _)
  · exact Decoded.z80_error _

theorem takeWord_z80 {f : Word → Instr} (h : ∀ w, (f w).isWdCommand = false) : (takeWord f rest).Z80 := by
  unfold takeWord
  split
  · exact Decoded.z80_ok (h _)
  · exact Decoded.z80_error _

theorem take2_z80 {f : Byte → Byte → Instr} (h : ∀ d n, (f d n).isWdCommand = false) :
    (take2 f rest).Z80 := by
  unfold take2
  split
  · exact Decoded.z80_ok (h _ _)
  · exact Decoded.z80_error _

end

section
variable (y : Nat) (r : Reg8) (i : Idx) (d : Byte)

theorem aluR_z80 : (aluR y r).isWdCommand = false := by unfold aluR; split <;> rfl
theorem aluMHl_z80 : (aluMHl y).isWdCommand = false := by unfold aluMHl; split <;> rfl
theorem aluN_z80 (n : Byte) : (aluN y n).isWdCommand = false := by unfold aluN; split <;> rfl
theorem aluIhl_z80 (h : Half) : (aluIhl y i h).isWdCommand = false := by unfold aluIhl; split <;> rfl
theorem aluMIx_z80 : (aluMIx y i d).isWdCommand = false := by unfold aluMIx; split <;> rfl
theorem rotR_z80 : (rotR y r).isWdCommand = false := by unfold rotR; split <;> rfl
theorem rotMHl_z80 : (rotMHl y).isWdCommand = false := by unfold rotMHl; split <;> rfl
theorem rotMIx_z80 : (rotMIx y i d).isWdCommand = false := by unfold rotMIx; split <;> rfl
theorem rotMIxCopy_z80 : (rotMIxCopy y i d r).isWdCommand = false := by unfold rotMIxCopy; split <;> rfl
theorem decodeBlock_z80 (z : Nat) : (decodeBlock y z).isWdCommand = false := by
  unfold decodeBlock; split <;> rfl

end

section
variable (op : Byte) (rest : List Byte)

theorem decodeX0_z80 : (decodeX0 op rest).Z80 := by
  unfold decodeX0
  repeat' split
  any_goals exact take0_z80 rfl
  any_goals exact take1_z80 fun _ => rfl
  all_goals exact takeWord_z80 fun _ => rfl

theorem decodeX1_z80 : (decodeX1 op rest).Z80 := by
  unfold decodeX1
  split <;> exact take0_z80 rfl

theorem decodeX2_z80 : (decodeX2 op rest).Z80 := by
  unfold decodeX2
  split
  · exact take0_z80 (aluR_z80 _ _)
  · exact take0_z80 (aluMHl_z80 _)

theorem decodeX3_z80 : (decodeX3 op rest).Z80 := by
  unfold decodeX3
  repeat' split
  any_goals exact take0_z80 rfl
  any_goals exact takeWord_z80 fun _ => rfl
  any_goals exact take1_z80 fun _ => rfl
  exact take1_z80 (aluN_z80 _)

theorem decodeMain_z80 : (decodeMain op rest).Z80 := by
  unfold decodeMain
  split
  · exact decodeX0_z80 op rest
  · exact decodeX1_z80 op rest
  · exact decodeX2_z80 op rest
  · exact decodeX3_z80 op rest

theorem decodeCb_z80 : (decodeCb op).isWdCommand = false := by
  unfold decodeCb
  split
  · exact rotR_z80 _ _
  · exact rotMHl_z80 _
  all_goals rfl

theorem decodeEd_z80 : (decodeEd op rest).Z80 := by
  unfold decodeEd decodeEd1
  repeat' split
  any_goals exact take0_z80 rfl
  any_goals exact takeWord_z80 fun _ => rfl
  exact take0_z80 (decodeBlock_z80 _ _)

variable (i : Idx)

theorem decodeXcb_z80 : (decodeXcb i rest).Z80 := by
  unfold decodeXcb
  split
  · dsimp only
    split
    · exact Decoded.z80_ok (rotMIx_z80 _ _ _)
    · exact Decoded.z80_ok (rotMIxCopy_z80 _ _ _ _)
    all_goals exact Decoded.z80_ok rfl
  · exact Decoded.z80_error _

theorem decodeIdxOp_z80 : (decodeIdxOp i op rest).Z80 := by
  unfold decodeIdxOp
  repeat' split
  any_goals exact take0_z80 rfl
  any_goals exact takeWord_z80 fun _ => rfl
  any_goals exact take1_z80 fun _ => rfl
  any_goals exact take2_z80 fun _ _ => rfl
  · exact take1_z80 (aluMIx_z80 _ _)
  · exact take0_z80 (aluIhl_z80 _ _ _)

theorem decodeIdx_z80 : (decodeIdx i rest).Z80 := by
  unfold decodeIdx
  split
  · split
    · exact decodeXcb_z80 _ i
    · split
      · exact decodeIdxOp_z80 _ _ i
      · exact Decoded.z80_ok rfl
  · exact Decoded.z80_error _

end

/-- The Z80 fetches no WD1793 command. -/
theorem decode_z80 (bs : List Byte) : (decode bs).Z80 := by
  unfold decode
  split
  · exact Decoded.z80_error _
  · split
    · split
      · exact Decoded.z80_ok (decodeCb_z80 _)
      · exact Decoded.z80_error _
    · split
      · split
        · exact decodeEd_z80 _ _
        · exact Decoded.z80_error _
      · split
        · exact decodeIdx_z80 _ .ix
        · split
          · exact decodeIdx_z80 _ .iy
          · exact decodeMain_z80 _ _

end Sys2Proof
end

section
/-! What an instruction is after its first opcode fetch: a property that the fetch establishes and that every change
an instruction is made of keeps holds of its next state. `exec_closed` says the same of a property that holds before
the fetch. -/

namespace Sys2Proof.Machine

section
variable {P : State → Prop} {s : State} {d : Direction} (h : Closed P)
include h

/-! An iteration of a block instruction is its step, then an end that repeats or one that does not. -/

theorem Closed.copyStep_of_fetch (op2 : P (Machine.fetchOp2 s)) : P (Machine.copyStep d s).2 := by
  unfold Machine.copyStep
  dsimp only
  exact h.mapCpu _ (h.internal _ _ (h.memWrite _ _ (h.memRead _ op2)))

theorem Closed.searchStep_of_fetch (op2 : P (Machine.fetchOp2 s)) : P (Machine.searchStep d s).2 := by
  unfold Machine.searchStep
  dsimp only
  exact h.mapCpu _ (h.internal _ _ (h.memRead _ op2))

theorem Closed.inStep_of_fetch (op2 : P (Machine.fetchOp2 s)) : P (Machine.inStep d s).2 := by
  unfold Machine.inStep
  dsimp only
  exact h.mapCpu _ (h.memWrite _ _ (h.ioRead _ (h.internalIr _ op2)))

theorem Closed.outStep_of_fetch (op2 : P (Machine.fetchOp2 s)) : P (Machine.outStep d s).2 := by
  unfold Machine.outStep
  dsimp only
  exact h.mapCpu _ (h.ioWrite _ _ (h.mapCpu _ (h.memRead _ (h.internalIr _ op2))))

theorem Closed.copyIteration_of_step (hs : P (Machine.copyStep d s).2) : P (Machine.copyIteration d s) := by
  unfold Machine.copyIteration
  dsimp only
  split
  · exact h.copyRepeat _ hs
  · exact h.copyEnd _ hs

theorem Closed.searchIteration_of_step (hs : P (Machine.searchStep d s).2) : P (Machine.searchIteration d s) := by
  unfold Machine.searchIteration
  dsimp only
  split
  · exact h.searchRepeat _ _ hs
  · exact h.searchEnd _ hs

theorem Closed.inIteration_of_step (hs : P (Machine.inStep d s).2) : P (Machine.inIteration d s) := by
  unfold Machine.inIteration
  dsimp only
  split
  · exact h.blockIoEnd _ _ hs
  · exact h.blockIoRepeat _ _ _ hs

theorem Closed.outIteration_of_step (hs : P (Machine.outStep d s).2) : P (Machine.outIteration d s) := by
  unfold Machine.outIteration
  dsimp only
  split
  · exact h.blockIoEnd _ _ hs
  · exact h.blockIoRepeat _ _ _ hs

end

/-- Every Z80 instruction begins with an opcode fetch at PC, and keeps what every change after it keeps. -/
theorem exec_closed_of_fetch {P : State → Prop} (h : Closed P) {i : Instr} (hi : i.isWdCommand = false)
    {s : State} (op : P (fetchOp s)) : NextIs P (exec i s) := by
  have opN : P (fetchOpN s) := h.skipRead _ op
  have opNn : P (fetchOpNn s) := h.skipRead _ opN
  have op2 : P (fetchOp2 s) := h.fetch _ op
  have op2N : P (fetchOp2N s) := h.skipRead _ op2
  have op2Nn : P (fetchOp2Nn s) := h.skipRead _ op2N
  have opIdx : P (fetchIdx s) := h.internal _ _ op2N
  have opXcb : P (fetchXcb s) := h.internal _ _ op2Nn
  have mHl : P (srcMHl s).2 := h.memRead _ op
  have mIx (i : Idx) (d : Byte) : P (srcMIx i d s).2 := h.memRead _ opIdx
  have copied (d : Direction) : P (copyStep d s).2 := h.copyStep_of_fetch op2
  have searched (d : Direction) : P (searchStep d s).2 := h.searchStep_of_fetch op2
  have input (d : Direction) : P (inStep d s).2 := h.inStep_of_fetch op2
  have output (d : Direction) : P (outStep d s).2 := h.outStep_of_fetch op2
  cases i with
  -- loads and exchanges
  | ldRS | exAfAf | exx | exDeHl => exact nextIs_next (h.skip _ (h.mapCpu _ op))
  | ldRN => exact nextIs_next (h.skip _ (h.mapCpu _ opN))
  | ldRrNn => exact nextIs_next (h.skip _ (h.mapCpu _ opNn))
  | ldIiNn => exact nextIs_next (h.skip _ (h.mapCpu _ op2Nn))
  | ldHalves => exact nextIs_undocumented (h.skip _ (h.mapCpu _ op2))
  | ldIhlN => exact nextIs_undocumented (h.skip _ (h.mapCpu _ op2N))
  | ldRMHl => exact nextIs_next (h.skip _ (h.mapCpu _ mHl))
  | ldRMIx i r d => exact nextIs_next (h.skip _ (h.mapCpu _ (mIx i d)))
  | ldAMBc | ldAMDe => exact nextIs_next (h.skip _ (h.loadA _ op))
  | ldAMNn => exact nextIs_next (h.skip _ (h.loadA _ opNn))
  | ldHlMNn => exact nextIs_next (h.skip _ (h.mapCpu _ (h.memReadWord _ opNn)))
  | ldRrMNn | ldIiMNn => exact nextIs_next (h.skip _ (h.mapCpu _ (h.memReadWord _ op2Nn)))
  | ldMBcA | ldMDeA | ldMHlS => exact nextIs_next (h.skip _ (h.memWrite _ _ op))
  | ldMHlN => exact nextIs_next (h.skip _ (h.memWrite _ _ opN))
  | ldMNnA => exact nextIs_next (h.skip _ (h.memWrite _ _ opNn))
  | ldMIxS => exact nextIs_next (h.skip _ (h.memWrite _ _ opIdx))
  | ldMIxN => exact nextIs_next (h.skip _ (h.memWrite _ _ (h.internal _ _ op2Nn)))
  | ldMNnHl => exact nextIs_next (h.skip _ (h.memWriteWord _ _ opNn))
  | ldMNnRr | ldMNnIi => exact nextIs_next (h.skip _ (h.memWriteWord _ _ op2Nn))
  | ldIA | ldRA => exact nextIs_next (h.skip _ (h.mapCpu _ (h.internalIr _ op2)))
  | ldAI | ldAR => exact nextIs_next (h.skip _ (h.loadAIr _ (h.internalIr _ op2)))
  | ldSpHl => exact nextIs_next (h.skip _ (h.setSp _ (h.internalIr _ op)))
  | ldSpIi => exact nextIs_next (h.skip _ (h.setSp _ (h.internalIr _ op2)))
  | pushQq => exact nextIs_next (h.skip _ (h.push _ (h.internalIr _ op)))
  | pushIi => exact nextIs_next (h.skip _ (h.push _ (h.internalIr _ op2)))
  | popQq => exact nextIs_next (h.skip _ (h.mapCpu _ (h.pop op)))
  | popIi => exact nextIs_next (h.skip _ (h.mapCpu _ (h.pop op2)))
  | exMSpHl => exact nextIs_next (h.skip _ (h.mapCpu _ (h.exchangeTop _ op)))
  | exMSpIi => exact nextIs_next (h.skip _ (h.mapCpu _ (h.exchangeTop _ op2)))
  -- arithmetic
  | addAR | adcAR | subAR | sbcAR | andAR | xorAR | orAR | cpAR =>
    exact nextIs_next (h.skip _ (h.applyAlu _ _ op))
  | addAMHl | adcAMHl | subAMHl | sbcAMHl | andAMHl | xorAMHl | orAMHl | cpAMHl =>
    exact nextIs_next (h.skip _ (h.applyAlu _ _ mHl))
  | addAN | adcAN | subAN | sbcAN | andAN | xorAN | orAN | cpAN =>
    exact nextIs_next (h.skip _ (h.applyAlu _ _ opN))
  | addAIhl | adcAIhl | subAIhl | sbcAIhl | andAIhl | xorAIhl | orAIhl | cpAIhl =>
    exact nextIs_undocumented (h.skip _ (h.applyAlu _ _ op2))
  | addAMIx i d | adcAMIx i d | subAMIx i d | sbcAMIx i d | andAMIx i d | xorAMIx i d | orAMIx i d
  | cpAMIx i d => exact nextIs_next (h.skip _ (h.applyAlu _ _ (mIx i d)))
  | incR | decR => exact nextIs_next (h.skip _ (h.setF _ (h.mapCpu _ op)))
  | incIhl | decIhl => exact nextIs_undocumented (h.skip _ (h.setF _ (h.mapCpu _ op2)))
  | incMHl | decMHl => exact nextIs_next (h.skip _ (h.stepMem _ _ op))
  | incMIx | decMIx => exact nextIs_next (h.skip _ (h.stepMem _ _ opIdx))
  | daa | cpl => exact nextIs_next (h.skip _ (h.setAF _ _ op))
  | neg => exact nextIs_next (h.skip _ (h.setAF _ _ op2))
  | negDup => exact nextIs_undocumented (h.skip _ (h.setAF _ _ op2))
  | scf | ccf => exact nextIs_next (h.skip _ (h.setF _ (h.drawBool (h.drawBool op))))
  | addHlRr => exact nextIs_next (h.skip _ (h.setF _ (h.mapCpu _ (h.internalIr _ op))))
  | sbcHlRr | adcHlRr | addIiRr => exact nextIs_next (h.skip _ (h.setF _ (h.mapCpu _ (h.internalIr _ op2))))
  | incRr | decRr => exact nextIs_next (h.skip _ (h.mapCpu _ (h.internalIr _ op)))
  | incIi | decIi => exact nextIs_next (h.skip _ (h.mapCpu _ (h.internalIr _ op2)))
  -- rotates, shifts and bits
  | rlca | rrca | rla | rra => exact nextIs_next (h.skip _ (h.setAF _ _ op))
  | rlcR | rrcR | rlR | rrR | slaR | sraR | srlR => exact nextIs_next (h.skip _ (h.setF _ (h.mapCpu _ op2)))
  | sllR => exact nextIs_undocumented (h.skip _ (h.setF _ (h.mapCpu _ op2)))
  | rlcMHl | rrcMHl | rlMHl | rrMHl | slaMHl | sraMHl | srlMHl =>
    exact nextIs_next (h.skip _ (h.rotMem _ _ op2))
  | sllMHl => exact nextIs_undocumented (h.skip _ (h.rotMem _ _ op2))
  | rlcMIx | rrcMIx | rlMIx | rrMIx | slaMIx | sraMIx | srlMIx =>
    exact nextIs_next (h.skip _ (h.rotMem _ _ opXcb))
  | sllMIx => exact nextIs_undocumented (h.skip _ (h.rotMem _ _ opXcb))
  | rlcMIxCopy | rrcMIxCopy | rlMIxCopy | rrMIxCopy | slaMIxCopy | sraMIxCopy | sllMIxCopy | srlMIxCopy =>
    exact nextIs_undocumented (h.skip _ (h.mapCpu _ (h.rotMem _ _ opXcb)))
  | rld | rrd =>
    exact nextIs_next (h.skip _ (h.setAF _ _ (h.memWrite _ _ (h.internal _ _ (h.memRead _ op2)))))
  | bitBR => exact nextIs_next (h.skip _ (h.setF _ op2))
  | bitBMHl => exact nextIs_next (h.skip _ (h.bitMem _ _ (h.probe _ op2)))
  | bitBMIx => exact nextIs_next (h.skip _ (h.bitMem _ _ (h.probe _ opXcb)))
  | bitBMIxDup => exact nextIs_undocumented (h.skip _ (h.bitMem _ _ (h.probe _ opXcb)))
  | resBR | setBR => exact nextIs_next (h.skip _ (h.mapCpu _ op2))
  | resBMHl | setBMHl => exact nextIs_next (h.skip _ (h.modify _ _ op2))
  | resBMIx | setBMIx => exact nextIs_next (h.skip _ (h.modify _ _ opXcb))
  | resBMIxCopy | setBMIxCopy => exact nextIs_undocumented (h.skip _ (h.mapCpu _ (h.modify _ _ opXcb)))
  -- control
  | nop => exact nextIs_next (h.skip _ op)
  | halt | di | ei => exact nextIs_next (h.skip _ (h.mapCpu _ op))
  | ignoredPrefix => exact nextIs_undocumented (h.skip _ (h.mapCpu _ op))
  | nopEd7 | noni => exact nextIs_undocumented (h.skip _ op2)
  | im0 | im1 | im2 => exact nextIs_next (h.skip _ (h.mapCpu _ op2))
  | imDup => exact nextIs_undocumented (h.skip _ (h.mapCpu _ op2))
  | jpHl => exact nextIs_next (h.setPc _ op)
  | jpIi => exact nextIs_next (h.setPc _ op2)
  | jpNn => exact nextIs_next (h.setPc _ opNn)
  | jpCNn =>
    refine nextIs_next ?_
    split
    · exact h.setPc _ opNn
    · exact h.skip _ opNn
  | jr => exact nextIs_next (h.takeRel _ _ opN)
  | jrC =>
    refine nextIs_next ?_
    split
    · exact h.takeRel _ _ opN
    · exact h.skip _ opN
  | djnz =>
    refine nextIs_next ?_
    split
    · exact h.skip _ (h.mapCpu _ (h.skipRead _ (h.internalIr _ op)))
    · exact h.takeRel _ _ (h.mapCpu _ (h.skipRead _ (h.internalIr _ op)))
  | callNn => exact nextIs_next (h.call _ _ (h.internal _ _ opNn))
  | callCNn =>
    refine nextIs_next ?_
    split
    · exact h.call _ _ (h.internal _ _ opNn)
    · exact h.skip _ opNn
  | rst => exact nextIs_next (h.call _ _ (h.internalIr _ op))
  | ret => exact nextIs_next (h.returnTo op)
  | retC =>
    refine nextIs_next ?_
    split
    · exact h.returnTo (h.internalIr _ op)
    · exact h.skip _ (h.internalIr _ op)
  | retn | reti => exact nextIs_next (h.returnFromInterrupt op2)
  | retnDup => exact nextIs_undocumented (h.returnFromInterrupt op2)
  -- input and output
  | inAN => exact nextIs_next (h.skip _ (h.setA _ (h.ioRead _ opN)))
  | inRC => exact nextIs_next (h.skip _ (h.mapCpu _ (h.setF _ (h.ioRead _ op2))))
  | inFC => exact nextIs_undocumented (h.skip _ (h.setF _ (h.ioRead _ op2)))
  | outNA => exact nextIs_next (h.skip _ (h.ioWrite _ _ opN))
  | outCR => exact nextIs_next (h.skip _ (h.ioWrite _ _ op2))
  | outC0 => exact nextIs_undocumented (h.skip _ (h.ioWrite _ _ op2))
  -- block instructions
  | ldi | ldd => exact nextIs_next (h.copyEnd _ (copied _))
  | ldir | lddr => exact nextIs_next (h.copyIteration_of_step (copied _))
  | cpi | cpd => exact nextIs_next (h.searchEnd _ (searched _))
  | cpir | cpdr => exact nextIs_next (h.searchIteration_of_step (searched _))
  | ini | ind => exact nextIs_next (h.blockIoEnd _ _ (input _))
  | inir | indr => exact nextIs_next (h.inIteration_of_step (input _))
  | outi | outd => exact nextIs_next (h.blockIoEnd _ _ (output _))
  | otir | otdr => exact nextIs_next (h.outIteration_of_step (output _))
  | wdRestore | wdSeek | wdStep | wdStepIn | wdStepOut | wdReadSector | wdWriteSector | wdReadAddress
  | wdReadTrack | wdWriteTrack | wdForceInterrupt => cases hi

/-! ## Time -/

theorem clock_advance_zero (c : Clock) : c.advance 0 = c := by
  simp [Clock.advance]

theorem clock_advance_advance (c : Clock) (j k : Nat) : (c.advance j).advance k = c.advance (j + k) := by
  simp only [Clock.advance, Nat.add_assoc, BitVec.ofNat_add, BitVec.add_assoc]

/-- From `s` on the clocks have moved together by `n` T-states at least. -/
def Moved (n : Nat) (s t : State) : Prop := ∃ k, n ≤ k ∧ t.clock = s.clock.advance k

theorem moved_zero (s : State) : Moved 0 s s := ⟨0, le_rfl, (clock_advance_zero s.clock).symm⟩

theorem Moved.advance {n : Nat} {s t : State} (h : Moved n s t) (j : Nat) : Moved (n + j) s (advance j t) := by
  obtain ⟨k, hk, hclock⟩ := h
  refine ⟨k + j, by omega, ?_⟩
  rw [← clock_advance_advance, ← hclock]
  rfl

theorem Moved.mono {m n : Nat} {s t : State} (h : Moved n s t) (hmn : m ≤ n) : Moved m s t := by
  obtain ⟨k, hk, hclock⟩ := h
  exact ⟨k, hmn.trans hk, hclock⟩

theorem Moved.tstates_le {n : Nat} {s t : State} (h : Moved n s t) :
    s.clock.tstates + n ≤ t.clock.tstates := by
  obtain ⟨k, hk, hclock⟩ := h
  rw [hclock]
  exact Nat.add_le_add_left hk _

/-- Nothing an instruction is made of takes time back, or moves one clock alone. -/
theorem moved_closed (n : Nat) (s : State) : Closed (Moved n s) where
  cpu _ _ h := h
  time _ k h := (h.advance k).mono (Nat.le_add_right n k)
  fetchPg _ _ h := h
  store _ _ _ h := h
  portIn t p h := by
    rw [portRead_frame]
    exact h
  portOut t p v h := by
    rw [portWrite_frame]
    exact h
  draw _ _ h := h
  wd _ _ h := h

/-- An opcode fetch takes 4 T-states and its delay. -/
theorem moved_fetch (a : Word) (s : State) : Moved 4 s (fetch a s) :=
  have started : Moved 0 s { s with paging := fetchPaging s.cfg s.paging a } := moved_zero s
  ((moved_closed 0 s).contend a started).advance 4

theorem moved_exec {i : Instr} (hi : i.isWdCommand = false) (s : State) : NextIs (Moved 4 s) (exec i s) :=
  exec_closed_of_fetch (moved_closed 4 s) hi (moved_fetch s.cpu.pc s)

/-- A WD1793 command is a write at the present time (log 12). -/
theorem exec_wdCommand {i : Instr} (hi : i.isWdCommand = true) (s : State) :
    ∃ v, exec i s = .next (wdCommand v s) := by
  cases i with
  | wdRestore | wdSeek | wdStep | wdStepIn | wdStepOut | wdReadSector | wdWriteSector | wdReadAddress
  | wdReadTrack | wdWriteTrack | wdForceInterrupt => exact ⟨_, rfl⟩
  | _ => cases hi

/-- An acknowledge of `n` T-states comes before the push. -/
theorem moved_enterHandler (n : Nat) (a : Word) (s : State) : Moved n s (enterHandler n a s) := by
  have started : Moved 0 s (bumpR s) := moved_zero s
  have acked : Moved n s (ack n (bumpR s)) := (started.advance n).mono (Nat.le_add_left n 0)
  exact (moved_closed n s).setPc a ((moved_closed n s).push _ acked)

theorem moved_acceptInt (s : State) : Moved 7 s (acceptInt s) := by
  unfold acceptInt
  dsimp only
  have entered := moved_enterHandler 7 0x0038
    { s with cpu := { s.cpu with halted := false, iff1 := false, iff2 := false } }
  split
  · exact entered
  · exact entered
  · exact (moved_closed 7 s).setPc _ ((moved_closed 7 s).memReadWord _ entered)

theorem moved_instructionStep (s : State) : NextIs (Moved 4 s) (instructionStep s) := by
  unfold instructionStep
  split
  · next i rest decoded => exact moved_exec (decode_z80 _ i rest decoded) s.clearEiBlock
  · rintro t ⟨⟩

theorem moved_loopStep (s : State) : NextIs (Moved 4 s) (loopStep s) := by
  unfold loopStep
  split
  · exact nextIs_next ((moved_enterHandler 5 0x0066 _).mono (by decide))
  · split
    · exact nextIs_next ((moved_acceptInt s).mono (by decide))
    · split
      · exact nextIs_next (moved_fetch s.cpu.pc s.clearEiBlock)
      · exact moved_instructionStep s

/-- Settles O11: the first opcode fetch, or the acknowledge, takes 4 T-states at least, and nothing after it takes
time back. -/
theorem instructionsAdvanceTime : Obligations.InstructionsAdvanceTime := by
  refine ⟨fun i s t ht => ?_, fun s t ht => (moved_loopStep s t ht).tstates_le⟩
  cases hi : i.isWdCommand with
  | false =>
    obtain ⟨k, hk, hclock⟩ := moved_exec hi s t ht
    exact ⟨k, hclock, fun _ => hk, nofun⟩
  | true =>
    obtain ⟨v, hv⟩ := exec_wdCommand hi s
    cases hv.symm.trans ht
    exact ⟨0, (clock_advance_zero s.clock).symm, nofun, fun _ => rfl⟩

end Sys2Proof.Machine
end

section
/-! The decoder reads back what the encoder writes (30 R180 to R197, R205). -/

namespace Sys2Proof

/-! ## The fields of an opcode byte -/

section
variable (x : BitVec 2) (y z : BitVec 3)

@[simp] theorem opX_opXyz : opX (opXyz x y z) = x.toNat := by revert x y z; decide
@[simp] theorem opY_opXyz : opY (opXyz x y z) = y.toNat := by revert x y z; decide
@[simp] theorem opZ_opXyz : opZ (opXyz x y z) = z.toNat := by revert x y z; decide

end

@[simp] theorem reg8_ofCode_code (r : Reg8) : Reg8.ofCode r.code.toNat = some r := by cases r <;> rfl

@[simp] theorem halfReg_ofCode_code (r : HalfReg) : HalfReg.ofCode r.code.toNat = some r := by
  cases r <;> rfl

/-- An index half has the code of a register, H or L. -/
theorem reg8_ofCode_halfReg (r : HalfReg) : ∃ q, Reg8.ofCode r.code.toNat = some q := by
  cases r <;> exact ⟨_, rfl⟩

@[simp] theorem immWord_immLo_immHi (nn : Word) : immWord (immLo nn) (immHi nn) = nn :=
  Machine.mkWord_hiByte_loByte nn

/-- A word read from its two bytes is the word they were taken from. -/
theorem decoded_word {d : Decoded} {f : Word → Instr} {nn : Word} {rest : List Byte}
    (h : d = .ok (f (immWord (immLo nn) (immHi nn)), rest)) : d = .ok (f nn, rest) := by
  rw [h, immWord_immLo_immHi]

/-! ## The spaces -/

section
variable (op : Byte) (rest : List Byte)

theorem decode_main (h : isPrefixByte op = false) : decode (op :: rest) = decodeMain op rest := by
  simp only [isPrefixByte, Bool.or_eq_false_iff, beq_eq_false_iff_ne] at h
  obtain ⟨⟨⟨hcb, hed⟩, hdd⟩, hfd⟩ := h
  simp only [decode, hcb, hed, hdd, hfd, if_false]

theorem decode_cb : decode (0xCB :: op :: rest) = .ok (decodeCb op, rest) := rfl
theorem decode_ed : decode (0xED :: op :: rest) = decodeEd op rest := rfl
theorem decode_idx (i : Idx) : decode (i.byte :: rest) = decodeIdx i rest := by cases i <;> rfl

theorem decode_idxOp (i : Idx) (hcb : op ≠ 0xCB) (h : ddAffected op = true) :
    decode (i.byte :: op :: rest) = decodeIdxOp i op rest := by
  simp only [decode_idx, decodeIdx, hcb, h, if_false, if_true]

theorem decode_ignoredPrefix (i : Idx) (h : ddAffected op = false) :
    decode (i.byte :: op :: rest) = .ok (.ignoredPrefix i, op :: rest) := by
  have hcb : op ≠ 0xCB := by rintro rfl; exact absurd h (by decide)
  simp only [decode_idx, decodeIdx, hcb, h, if_false, Bool.false_eq_true]

theorem decode_encXcb (i : Idx) (d : Byte) (x : BitVec 2) (y z : BitVec 3) :
    decode (encXcb i d x y z ++ rest) = decodeXcb i (d :: opXyz x y z :: rest) := decode_idx _ i

end

/-! ## Instructions with a 3-bit field or an opcode byte for operand -/

section
variable (rest : List Byte)

theorem decode_encode_rst (t : BitVec 3) : decode (encode (.rst t) ++ rest) = .ok (.rst t, rest) := by
  have plain : isPrefixByte (opXyz 3 t 7) = false := by revert t; decide
  refine (decode_main _ rest plain).trans ?_
  simp [decodeMain, decodeX3, take0]

/-- Under ED an opcode of x = 01 is defined. -/
theorem decode_ed1 (y z : BitVec 3) :
    decode (0xED :: opXyz 1 y z :: rest) = decodeEd1 (opXyz 1 y z) rest := by
  have defined : isUndefinedEd (opXyz 1 y z) = false := by revert y z; decide
  rw [decode_ed, decodeEd, defined, opX_opXyz]
  rfl

theorem decode_encode_negDup {y : BitVec 3} (h : (Instr.negDup y).wf = true) :
    decode (encode (.negDup y) ++ rest) = .ok (.negDup y, rest) := by
  have other : y.toNat ≠ 0 := by revert y; decide
  refine (decode_ed1 rest y 4).trans ?_
  -- `other`, in the context, rules out the first case of the match
  simp [decodeEd1, take0]

theorem decode_encode_retnDup {y : BitVec 3} (h : (Instr.retnDup y).wf = true) :
    decode (encode (.retnDup y) ++ rest) = .ok (.retnDup y, rest) := by
  have other : y.toNat ≠ 0 ∧ y.toNat ≠ 1 := by revert y; decide
  refine (decode_ed1 rest y 5).trans ?_
  simp [decodeEd1, take0, other]

theorem decode_encode_imDup {y : BitVec 3} (h : (Instr.imDup y).wf = true) :
    decode (encode (.imDup y) ++ rest) = .ok (.imDup y, rest) := by
  have other : y.toNat ≠ 0 ∧ y.toNat ≠ 2 ∧ y.toNat ≠ 3 := by revert y; decide
  refine (decode_ed1 rest y 6).trans ?_
  simp [decodeEd1, take0, other]

theorem decode_encode_noni {op : Byte} (h : isUndefinedEd op = true) :
    decode (encode (.noni op) ++ rest) = .ok (.noni op, rest) := by
  refine (decode_ed op rest).trans ?_
  simp [decodeEd, h, take0]

/-- A DD or FD byte affects the register loads that name an index half (30 R195). -/
theorem ddAffected_halves {r r2 : HalfReg} (h : (r.isHalf || r2.isHalf) = true) :
    ddAffected (opXyz 1 r.code r2.code) = true := by
  cases r <;> cases r2 <;> revert h <;> decide

theorem decode_encode_ldHalves (i : Idx) {r r2 : HalfReg} (h : (r.isHalf || r2.isHalf) = true) :
    decode (encode (.ldHalves i r r2) ++ rest) = .ok (.ldHalves i r r2, rest) := by
  have hcb : opXyz 1 r.code r2.code ≠ 0xCB := by
    generalize r.code = y, r2.code = z
    revert y z
    decide
  obtain ⟨q, hq⟩ := reg8_ofCode_halfReg r
  obtain ⟨q2, hq2⟩ := reg8_ofCode_halfReg r2
  refine (decode_idxOp _ rest i hcb (ddAffected_halves h)).trans ?_
  simp [decodeIdxOp, take0, hq, hq2]

end

/-- A Z80 instruction, an ignored DD or FD byte aside, is read back from its encoding: for each shape of operands the
decoder is evaluated on the bytes that their codes give. -/
theorem decode_encode {i : Instr} (hwf : i.wf = true) (hz80 : i.isWdCommand = false)
    (hprefix : ∀ x, i ≠ .ignoredPrefix x) (rest : List Byte) : decode (encode i ++ rest) = .ok (i, rest) := by
  cases i with
  | nop | ldMBcA | ldMDeA | ldAMBc | ldAMDe | incMHl | decMHl | ldMHlN n | rlca | rrca | rla | rra | daa | cpl
  | scf | ccf | exAfAf | djnz e | jr e | halt | addAMHl | addAN n | adcAMHl | adcAN n | subAMHl | subAN n
  | sbcAMHl | sbcAN n | andAMHl | andAN n | xorAMHl | xorAN n | orAMHl | orAN n | cpAMHl | cpAN n | ret | exx
  | jpHl | ldSpHl | outNA n | inAN n | exMSpHl | exDeHl | di | ei | rlcMHl | rrcMHl | rlMHl | rrMHl | slaMHl
  | sraMHl | sllMHl | srlMHl | inFC | outC0 | neg | retn | reti | im0 | im1 | im2 | ldIA | ldRA | ldAI | ldAR
  | rrd | rld | ldi | ldd | ldir | lddr | cpi | cpd | cpir | cpdr | ini | ind | inir | indr | outi | outd | otir
  | otdr => rfl
  | ldMNnHl nn | ldMNnA nn | ldHlMNn nn | ldAMNn nn | jpNn nn | callNn nn => exact decoded_word rfl
  | ldRrNn rr nn | ldMNnRr rr nn | ldRrMNn rr nn => cases rr <;> exact decoded_word rfl
  | jpCNn cc nn | callCNn cc nn => cases cc <;> exact decoded_word rfl
  | addHlRr rr | incRr rr | decRr rr | sbcHlRr rr | adcHlRr rr => cases rr <;> rfl
  | incR r | decR r | ldRN r n | ldRMHl r | ldMHlS r | addAR r | adcAR r | subAR r | sbcAR r | andAR r | xorAR r
  | orAR r | cpAR r | rlcR r | rrcR r | rlR r | rrR r | slaR r | sraR r | sllR r | srlR r | inRC r | outCR r =>
    cases r <;> rfl
  | ldRS r r2 => cases r <;> cases r2 <;> rfl
  | jrC cc e => cases cc <;> rfl
  | retC cc => cases cc <;> rfl
  | popQq qq | pushQq qq => cases qq <;> rfl
  | nopEd7 y => cases y <;> rfl
  | rst t => exact decode_encode_rst rest t
  | bitBR bit r | resBR bit r | setBR bit r =>
    refine (decode_cb _ rest).trans ?_
    simp [decodeCb]
  | bitBMHl bit | resBMHl bit | setBMHl bit =>
    refine (decode_cb _ rest).trans ?_
    simp [decodeCb, Reg8.ofCode]
  | negDup y => exact decode_encode_negDup rest hwf
  | retnDup y => exact decode_encode_retnDup rest hwf
  | imDup y => exact decode_encode_imDup rest hwf
  | noni op => exact decode_encode_noni rest hwf
  | ldIiNn i nn | ldMNnIi i nn | ldIiMNn i nn => cases i <;> exact decoded_word rfl
  | incIi i | decIi i | incMIx i d | decMIx i d | ldMIxN i d n | addAMIx i d | adcAMIx i d | subAMIx i d
  | sbcAMIx i d | andAMIx i d | xorAMIx i d | orAMIx i d | cpAMIx i d | popIi i | exMSpIi i | pushIi i | jpIi i
  | ldSpIi i | rlcMIx i d | rrcMIx i d | rlMIx i d | rrMIx i d | slaMIx i d | sraMIx i d | sllMIx i d
  | srlMIx i d => cases i <;> rfl
  | addIiRr i pp => cases i <;> cases pp <;> rfl
  | incIhl i h | decIhl i h | ldIhlN i h n | addAIhl i h | adcAIhl i h | subAIhl i h | sbcAIhl i h | andAIhl i h
  | xorAIhl i h | orAIhl i h | cpAIhl i h => cases i <;> cases h <;> rfl
  | ldRMIx i r d | ldMIxS i r d | rlcMIxCopy i d r | rrcMIxCopy i d r | rlMIxCopy i d r | rrMIxCopy i d r
  | slaMIxCopy i d r | sraMIxCopy i d r | sllMIxCopy i d r | srlMIxCopy i d r => cases i <;> cases r <;> rfl
  | ldHalves i r r2 => exact decode_encode_ldHalves rest i hwf
  | bitBMIx i bit d | resBMIx i bit d | setBMIx i bit d =>
    refine (decode_encXcb rest i d _ _ _).trans ?_
    simp [decodeXcb, Reg8.ofCode]
  | bitBMIxDup i bit d r | resBMIxCopy i bit d r | setBMIxCopy i bit d r =>
    refine (decode_encXcb rest i d _ _ _).trans ?_
    simp [decodeXcb]
  | ignoredPrefix x => exact absurd rfl (hprefix x)
  | wdRestore | wdSeek | wdStep | wdStepIn | wdStepOut | wdReadSector | wdWriteSector | wdReadAddress | wdReadTrack
  | wdWriteTrack | wdForceInterrupt => cases hz80

/-- A command has one byte, and each of its bits is a field of the command or fixed (30 R205). -/
theorem decodeWdCommand_encode {i : Instr} (hcmd : i.isWdCommand = true) :
    ∃ b, encode i = [b] ∧ decodeWdCommand b = i := by
  cases i with
  | wdRestore h v r | wdSeek h v r =>
    clear hcmd
    exact ⟨_, rfl, by revert h v r; decide⟩
  | wdStep u h v r | wdStepIn u h v r | wdStepOut u h v r =>
    clear hcmd
    exact ⟨_, rfl, by revert u h v r; decide⟩
  | wdReadSector m side e c =>
    clear hcmd
    exact ⟨_, rfl, by revert m side e c; decide⟩
  | wdWriteSector m side e c a0 =>
    clear hcmd
    exact ⟨_, rfl, by revert m side e c a0; decide⟩
  | wdReadAddress e | wdReadTrack e | wdWriteTrack e =>
    clear hcmd
    exact ⟨_, rfl, by revert e; decide⟩
  | wdForceInterrupt cond =>
    clear hcmd
    exact ⟨_, rfl, by revert cond; decide⟩
  | _ => cases hcmd

/-- Settles O1: the fields of an opcode byte are the operands' codes, and each code is read back as its operand. -/
theorem decodeEncodeRoundTrip : Obligations.DecodeEncodeRoundTrip :=
  ⟨fun _ hwf hz80 hprefix rest => decode_encode hwf hz80 hprefix rest,
    fun x op rest h => decode_ignoredPrefix op rest x h, fun _ h => decodeWdCommand_encode h⟩

end Sys2Proof
end

section
/-! The decoder is total on four bytes or more, and reads as many bytes as the instruction's encoding has (30 R198,
R199). -/

namespace Sys2Proof

/-- The instruction is well-formed and its encoding has `n` bytes. -/
def Instr.Sized (n : Nat) (i : Instr) : Prop := (encode i).length = n ∧ i.wf = true

/-- With `k` bytes of the instruction read before, the decoder takes the rest of its encoding off `bs`. -/
def Decoded.Reads (k : Nat) (bs : List Byte) (d : Decoded) : Prop :=
  ∃ i m, d = .ok (i, bs.drop m) ∧ i.Sized (k + m)

section
variable {k : Nat} {bs : List Byte} (b0 b1 : Byte)

theorem take0_reads {i : Instr} (h : i.Sized k) : (take0 i bs).Reads k bs := ⟨i, 0, rfl, h⟩

theorem take1_reads {f : Byte → Instr} (h : ∀ n, (f n).Sized (k + 1)) :
    (take1 f (b0 :: bs)).Reads k (b0 :: bs) := ⟨f b0, 1, rfl, h b0⟩

theorem takeWord_reads {f : Word → Instr} (h : ∀ w, (f w).Sized (k + 2)) :
    (takeWord f (b0 :: b1 :: bs)).Reads k (b0 :: b1 :: bs) := ⟨f (immWord b0 b1), 2, rfl, h _⟩

theorem take2_reads {f : Byte → Byte → Instr} (h : ∀ d n, (f d n).Sized (k + 2)) :
    (take2 f (b0 :: b1 :: bs)).Reads k (b0 :: b1 :: bs) := ⟨f b0 b1, 2, rfl, h _ _⟩

/-- Bytes read one by one count with those read before. -/
theorem Decoded.Reads.cons {d : Decoded} (h : d.Reads (k + 1) bs) : d.Reads k (b0 :: bs) := by
  obtain ⟨i, m, hd, hi⟩ := h
  exact ⟨i, m + 1, hd, by rwa [Nat.add_comm m, ← Nat.add_assoc]⟩

end

/-! ## The families of instructions -/

section
variable (y : Nat) (r : Reg8) (i : Idx) (d : Byte)

theorem aluR_sized : (aluR y r).Sized 1 := by unfold aluR; split <;> exact ⟨rfl, rfl⟩
theorem aluMHl_sized : (aluMHl y).Sized 1 := by unfold aluMHl; split <;> exact ⟨rfl, rfl⟩
theorem aluN_sized (n : Byte) : (aluN y n).Sized 2 := by unfold aluN; split <;> exact ⟨rfl, rfl⟩
theorem aluIhl_sized (h : Half) : (aluIhl y i h).Sized 2 := by unfold aluIhl; split <;> exact ⟨rfl, rfl⟩
theorem aluMIx_sized : (aluMIx y i d).Sized 3 := by unfold aluMIx; split <;> exact ⟨rfl, rfl⟩
theorem rotR_sized : (rotR y r).Sized 2 := by unfold rotR; split <;> exact ⟨rfl, rfl⟩
theorem rotMHl_sized : (rotMHl y).Sized 2 := by unfold rotMHl; split <;> exact ⟨rfl, rfl⟩
theorem rotMIx_sized : (rotMIx y i d).Sized 4 := by unfold rotMIx; split <;> exact ⟨rfl, rfl⟩
theorem rotMIxCopy_sized : (rotMIxCopy y i d r).Sized 4 := by unfold rotMIxCopy; split <;> exact ⟨rfl, rfl⟩
theorem decodeBlock_sized (z : Nat) : (decodeBlock y z).Sized 2 := by
  unfold decodeBlock; split <;> exact ⟨rfl, rfl⟩

theorem decodeCb_sized (op : Byte) : (decodeCb op).Sized 2 := by
  unfold decodeCb
  split
  · exact rotR_sized _ _
  · exact rotMHl_sized _
  all_goals exact ⟨rfl, rfl⟩

end

/-! ## The forms with a constraint on their field -/

/-- A duplicate has another `y` than the documented forms (30 R186, R191). -/
theorem negDup_wf : ∀ op : Byte, opY op ≠ 0 → (Instr.negDup (BitVec.ofNat 3 (opY op))).wf = true := by decide
theorem retnDup_wf : ∀ op : Byte, opY op ≠ 0 → opY op ≠ 1 →
    (Instr.retnDup (BitVec.ofNat 3 (opY op))).wf = true := by decide
theorem imDup_wf : ∀ op : Byte, opY op ≠ 0 → opY op ≠ 2 → opY op ≠ 3 →
    (Instr.imDup (BitVec.ofNat 3 (opY op))).wf = true := by decide

/-- An index half named, by the codes of the two registers of a load. -/
def namesHalf (y z : Nat) : Bool :=
  match HalfReg.ofCode y, HalfReg.ofCode z with
  | some r, some r2 => r.isHalf || r2.isHalf
  | _, _ => false

theorem exists_of_namesHalf {y z : Nat} (h : namesHalf y z = true) :
    ∃ r r2, HalfReg.ofCode y = some r ∧ HalfReg.ofCode z = some r2 ∧ (r.isHalf || r2.isHalf) = true := by
  unfold namesHalf at h
  split at h
  · next r r2 hr hr2 => exact ⟨r, r2, hr, hr2, h⟩
  · cases h

/-- A load of x = 01 that a DD or FD byte affects, its operands both registers or both `(HL)`, is one of registers
and names an index half (30 R195, R196). -/
theorem namesHalf_of_ddAffected : ∀ op : Byte, ddAffected op = true → opX op = 1 →
    (Reg8.ofCode (opY op)).isSome = (Reg8.ofCode (opZ op)).isSome → namesHalf (opY op) (opZ op) = true := by
  decide

/-! ## The spaces, with the bytes after the opcode at hand -/

section
variable (op b0 b1 : Byte) (rest : List Byte)

theorem decodeX0_reads : (decodeX0 op (b0 :: b1 :: rest)).Reads 1 (b0 :: b1 :: rest) := by
  unfold decodeX0
  repeat' split
  any_goals exact take0_reads ⟨rfl, rfl⟩
  any_goals exact take1_reads _ fun _ => ⟨rfl, rfl⟩
  all_goals exact takeWord_reads _ _ fun _ => ⟨rfl, rfl⟩

theorem decodeX1_reads : (decodeX1 op rest).Reads 1 rest := by
  unfold decodeX1
  split <;> exact take0_reads ⟨rfl, rfl⟩

theorem decodeX2_reads : (decodeX2 op rest).Reads 1 rest := by
  unfold decodeX2
  split
  · exact take0_reads (aluR_sized _ _)
  · exact take0_reads (aluMHl_sized _)

theorem decodeX3_reads : (decodeX3 op (b0 :: b1 :: rest)).Reads 1 (b0 :: b1 :: rest) := by
  unfold decodeX3
  repeat' split
  any_goals exact take0_reads ⟨rfl, rfl⟩
  any_goals exact takeWord_reads _ _ fun _ => ⟨rfl, rfl⟩
  any_goals exact take1_reads _ fun _ => ⟨rfl, rfl⟩
  exact take1_reads _ (aluN_sized _)

theorem decodeMain_reads : (decodeMain op (b0 :: b1 :: rest)).Reads 1 (b0 :: b1 :: rest) := by
  unfold decodeMain
  split
  · exact decodeX0_reads op b0 b1 rest
  · exact decodeX1_reads op _
  · exact decodeX2_reads op _
  · exact decodeX3_reads op b0 b1 rest

theorem decodeEd1_reads : (decodeEd1 op (b0 :: b1 :: rest)).Reads 2 (b0 :: b1 :: rest) := by
  unfold decodeEd1
  repeat' split
  any_goals exact take0_reads ⟨rfl, rfl⟩
  any_goals exact takeWord_reads _ _ fun _ => ⟨rfl, rfl⟩
  · next h0 => exact take0_reads ⟨rfl, negDup_wf op h0⟩
  · next h0 h1 => exact take0_reads ⟨rfl, retnDup_wf op h0 h1⟩
  · next h0 h2 h3 => exact take0_reads ⟨rfl, imDup_wf op h0 h2 h3⟩

theorem decodeEd_reads : (decodeEd op (b0 :: b1 :: rest)).Reads 2 (b0 :: b1 :: rest) := by
  unfold decodeEd
  split
  · next undefined => exact take0_reads ⟨rfl, undefined⟩
  · split
    · exact decodeEd1_reads op b0 b1 rest
    · exact take0_reads (decodeBlock_sized _ _)

variable (i : Idx)

theorem decodeXcb_reads : (decodeXcb i (b0 :: b1 :: rest)).Reads 2 (b0 :: b1 :: rest) := by
  unfold decodeXcb
  dsimp only
  split
  · exact ⟨_, 2, rfl, rotMIx_sized _ _ _⟩
  · exact ⟨_, 2, rfl, rotMIxCopy_sized _ _ _ _⟩
  all_goals exact ⟨_, 2, rfl, rfl, rfl⟩

theorem decodeIdxOp_reads_of_x1 (hx : opX op = 1) (affected : ddAffected op = true) :
    (decodeIdxOp i op (b0 :: rest)).Reads 2 (b0 :: rest) := by
  have halves := fun alike => exists_of_namesHalf (namesHalf_of_ddAffected op affected hx alike)
  unfold decodeIdxOp
  rw [hx]
  cases hy : Reg8.ofCode (opY op) <;> cases hz : Reg8.ofCode (opZ op)
  case none.some | some.none => all_goals exact take1_reads _ fun _ => ⟨rfl, rfl⟩
  case none.none | some.some =>
    all_goals
      obtain ⟨r, r2, hr, hr2, half⟩ := halves (by simp [hy, hz])
      rw [hr, hr2]
      exact take0_reads ⟨rfl, half⟩

theorem decodeIdxOp_reads (affected : ddAffected op = true) :
    (decodeIdxOp i op (b0 :: b1 :: rest)).Reads 2 (b0 :: b1 :: rest) := by
  by_cases hx : opX op = 1
  · exact decodeIdxOp_reads_of_x1 op b0 (b1 :: rest) i hx affected
  · unfold decodeIdxOp
    repeat' split
    any_goals contradiction
    any_goals exact take0_reads ⟨rfl, rfl⟩
    any_goals exact takeWord_reads _ _ fun _ => ⟨rfl, rfl⟩
    any_goals exact take1_reads _ fun _ => ⟨rfl, rfl⟩
    any_goals exact take2_reads _ _ fun _ _ => ⟨rfl, rfl⟩
    · exact take1_reads _ (aluMIx_sized _ _)
    · exact take0_reads (aluIhl_sized _ _ _)

theorem decodeIdx_reads (b2 : Byte) :
   (decodeIdx i (b0 :: b1 :: b2 :: rest)).Reads 1 (b0 :: b1 :: b2 :: rest) := by
  unfold decodeIdx
  dsimp only
  split
  · exact (decodeXcb_reads b1 b2 rest i).cons _
  · split
    · next affected => exact (decodeIdxOp_reads b0 b1 b2 rest i affected).cons _
    · exact ⟨_, 0, rfl, rfl, rfl⟩

end

/-- Four bytes are enough for any instruction. -/
theorem decode_reads (b0 b1 b2 b3 : Byte) (rest : List Byte) :
    (decode (b0 :: b1 :: b2 :: b3 :: rest)).Reads 0 (b0 :: b1 :: b2 :: b3 :: rest) := by
  unfold decode
  dsimp only
  split
  · exact ⟨_, 2, rfl, decodeCb_sized _⟩
  · refine Decoded.Reads.cons b0 ?_
    split
    · exact (decodeEd_reads b1 b2 b3 rest).cons _
    · split
      · exact decodeIdx_reads b1 b2 rest .ix b3
      · split
        · exact decodeIdx_reads b1 b2 rest .iy b3
        · exact decodeMain_reads b0 b1 b2 (b3 :: rest)

theorem encode_length (i : Instr) : 1 ≤ (encode i).length ∧ (encode i).length ≤ 4 := by
  cases i <;> exact ⟨Nat.le_of_ble_eq_true rfl, Nat.le_of_ble_eq_true rfl⟩

/-- Settles O2: each space of the decoder takes off the bytes of the instruction it answers. -/
theorem decodeIsTotal : Obligations.DecodeIsTotal := by
  intro b0 b1 b2 b3 rest
  obtain ⟨i, n, hdecode, hlength, hwf⟩ := decode_reads b0 b1 b2 b3 rest
  have hn : n = (encode i).length := by omega
  obtain ⟨hpos, hmax⟩ := encode_length i
  exact ⟨i, n, hdecode, by omega, by omega, hn, hwf, decode_z80 _ _ _ hdecode⟩

end Sys2Proof
end

section
/-! What stops an instruction or a step: the refusal of an undocumented form under UNDOC_OPCODES = refuse, and nothing
else (30 R199, R200; 44 R461, R475; 60 R730, R732). -/

namespace Sys2Proof.Machine

/-- What an instruction answers: for each row its next state, passed through `undocumented` where the opcode table
calls the row so. -/
theorem exec_outcome (i : Instr) (s : State) :
    ∃ t, exec i s = if isUndocumented i then undocumented s t else .next t := by
  cases i <;> exact ⟨_, rfl⟩

theorem undocumented_of_refuse {s : State} (h : s.cfg.undoc = .refuse) (t : State) :
    undocumented s t = .refused (.undocumentedOpcode s.cpu.pc) := by
  rw [undocumented, h]

theorem undocumented_of_execute {s : State} (h : s.cfg.undoc = .execute) (t : State) :
    undocumented s t = .next t := by
  rw [undocumented, h]

theorem exec_of_refuse {i : Instr} {s : State} (hi : isUndocumented i = true) (h : s.cfg.undoc = .refuse) :
    exec i s = .refused (.undocumentedOpcode s.cpu.pc) := by
  obtain ⟨t, ht⟩ := exec_outcome i s
  rw [ht, hi, if_pos rfl, undocumented_of_refuse h]

theorem exec_completes {i : Instr} {s : State} (h : isUndocumented i = false ∨ s.cfg.undoc = .execute) :
    ∃ t, exec i s = .next t := by
  obtain ⟨t, ht⟩ := exec_outcome i s
  refine ⟨t, ht.trans ?_⟩
  split
  · next hi =>
    obtain hdoc | hundoc := h
    · rw [hdoc] at hi
      cases hi
    · exact undocumented_of_execute hundoc t
  · rfl

/-- Settles O5: the outcome of each row, under each value of UNDOC_OPCODES. -/
theorem onlyUndocumentedFormsAreRefused : Obligations.OnlyUndocumentedFormsAreRefused :=
  ⟨fun _ _ hi h => exec_of_refuse hi h, fun _ _ h => exec_completes h⟩

/-- An outcome that the machine may have in `s`: a next state, or the refusal of an undocumented form at PC. -/
def Admissible (s : State) (o : Result) : Prop :=
  (∃ t, o = .next t) ∨ (s.cfg.undoc = .refuse ∧ o = .refused (.undocumentedOpcode s.cpu.pc))

theorem admissible_next (s t : State) : Admissible s (.next t) := .inl ⟨t, rfl⟩

theorem admissible_exec (i : Instr) (s : State) : Admissible s (exec i s) := by
  cases hundoc : s.cfg.undoc with
  | execute => exact .inl (exec_completes (.inr hundoc))
  | refuse =>
    cases hi : isUndocumented i with
    | false => exact .inl (exec_completes (.inl hi))
    | true => exact .inr ⟨hundoc, exec_of_refuse hi hundoc⟩

/-- The four bytes at PC always decode. -/
theorem admissible_instructionStep (s : State) : Admissible s (instructionStep s) := by
  obtain ⟨i, n, hdecode, -⟩ : (decode (peekBytes s)).Reads 0 (peekBytes s) := decode_reads _ _ _ _ []
  rw [instructionStep, hdecode]
  exact admissible_exec i s.clearEiBlock

theorem admissible_loopStep (s : State) : Admissible s (loopStep s) := by
  unfold loopStep
  split
  · exact admissible_next _ _
  · split
    · exact admissible_next _ _
    · split
      · exact admissible_next _ _
      · exact admissible_instructionStep s

theorem admissible_step {s : State} (h : cfgAdmitted s.cfg = true) : Admissible s (step s) := by
  unfold step
  rw [h, Bool.not_true, if_neg Bool.false_ne_true]
  split
  · exact admissible_next _ _
  · split
    · exact admissible_loopStep s.inFrame
    · exact admissible_next _ _

/-- Settles O6: every branch of a step but the instruction's own answers a next state, and every four bytes decode. -/
theorem stepNeverStopsOtherwise : Obligations.StepNeverStopsOtherwise := fun _ h => admissible_step h

end Sys2Proof.Machine
end

section
/-! Words of 30_encoding.md, decoded. -/

namespace Sys2Proof

/-- Settles O3: each word is evaluated. -/
theorem sampleWordsDecode : Obligations.SampleWordsDecode :=
  ⟨rfl, rfl, rfl, rfl, rfl, rfl, rfl, rfl, rfl, rfl, rfl, rfl, rfl, rfl, rfl, rfl, rfl, rfl⟩

end Sys2Proof
end

section
/-! The WD1793 commands (30 R205; 47 R602, R631, R651): what the write of a command byte starts. -/

namespace Sys2Proof.Machine

section
variable (c : Cfg) (b : Byte) (w : Wd)

/-- FORCE INTERRUPT, field by field (47 R651). -/
theorem forceInterrupt_eq : w.forceInterrupt b =
    { w with
      statusReg := if w.state = .idle then 0x00 else w.statusReg &&& 0xFE,
      statusType := if w.state = .idle then .typeI else w.statusType,
      drq := decide (w.state = .idle) && w.drq, state := .idle,
      intCond := b.extractLsb' 0 4, cmdReg := b, intrq := b.getLsbD 3, idleRevs := 0 } := by
  unfold Wd.forceInterrupt
  by_cases h : w.state = .idle <;> simp [h]

/-- The start of a Type I command, field by field; the high four bits of its byte tell its kind (47 R631). -/
theorem startTypeI_eq (h : b.toNat / 16 < 8) : w.startTypeI b =
    { w with
      statusType := .typeI, headLoaded := b.getLsbD 3,
      trackReg := if b.toNat / 16 = 0 then 0xFF else w.trackReg,
      dataReg := if b.toNat / 16 = 0 then 0x00 else w.dataReg,
      dsr := if b.toNat / 16 = 0 then 0x00 else if b.toNat / 16 = 1 then w.dataReg else w.dsr,
      dire := if b.toNat / 16 = 4 ∨ b.toNat / 16 = 5 then true else if 6 ≤ b.toNat / 16 then false else w.dire,
      state := .t1Decide } := by
  have steps : b.toNat / 32 = b.toNat / 16 / 2 := by omega
  unfold Wd.startTypeI isRestore isSeekOrRestore
  rw [steps]
  generalize b.toNat / 16 = kind at h
  interval_cases kind <;> rfl

/-- The start of a Type II or III command is refused by a unit that is not ready (47 R631). -/
theorem startTypeIIIII_of_not_ready (wp : Bool) :
    w.startTypeIIIII c false wp b = { w with statusType := .typeIIIII }.finish := rfl

/-- It is refused by a protected disk where the command writes (47 R631). -/
theorem startTypeIIIII_of_protected (h : b.toNat / 32 = 5 ∨ b.toNat / 16 = 15) :
    w.startTypeIIIII c true true b
      = { w with statusType := .typeIIIII, statusReg := statusBit w.statusReg 6 }.finish := by
  have writes : (isWriteSector b || isWriteTrack b) = true := by simpa [isWriteSector, isWriteTrack] using h
  simp [Wd.startTypeIIIII, writes]

/-- Else the command settles (47 R631). -/
theorem startTypeIIIII_of_settles {wp : Bool} (h : ¬ (b.toNat / 32 = 5 ∨ b.toNat / 16 = 15) ∨ wp = false) :
    w.startTypeIIIII c true wp b = { w with
      statusType := .typeIIIII, state := .t2Settle,
      delay := if c.fastMode = true ∨ (b.getLsbD 2 = false ∧ w.headLoaded = true) then 0
               else msToSteps c 15 } := by
  have allowed : ((isWriteSector b || isWriteTrack b) && wp) = false := by
    simp only [isWriteSector, isWriteTrack, Bool.and_eq_false_iff, Bool.or_eq_false_iff, beq_eq_false_iff_ne]
    exact h.imp_left not_or.mp
  have settle : settleSteps c (b.getLsbD 2) w.headLoaded =
      if c.fastMode = true ∨ (b.getLsbD 2 = false ∧ w.headLoaded = true) then 0 else msToSteps c 15 := by
    unfold settleSteps
    cases c.fastMode <;> cases b.getLsbD 2 <;> cases w.headLoaded <;> rfl
  simp only [Wd.startTypeIIIII, allowed, settle, Bool.not_true, Bool.false_eq_true, if_false]

end

/-! ## The write of a command byte -/

section
variable {c : Cfg} {b : Byte} {d : Disk}

theorem commandWrite_force (h : b.toNat / 16 = 13) :
    d.commandWrite c b = { d with wd := d.wd.forceInterrupt b } := if_pos h

theorem commandWrite_busy (hk : b.toNat / 16 ≠ 13) (h : d.wd.state ≠ .idle) : d.commandWrite c b = d :=
  (if_neg hk).trans (if_pos h)

theorem commandWrite_idle (hk : b.toNat / 16 ≠ 13) (h : d.wd.state = .idle) :
    d.commandWrite c b = d.commandStart c b := (if_neg hk).trans (if_neg (not_not.mpr h))

theorem commandStart_typeI (hk : b.toNat / 16 < 8) :
    d.commandStart c b = { d with wd := (d.wd.commandCommon b).startTypeI b } := by
  have typeI : (!b.getLsbD 7) = true := by revert b; decide
  simp only [Disk.commandStart, Disk.setWd, typeI, if_true]

theorem commandStart_typeIIIII (hk : 8 ≤ b.toNat / 16) :
    d.commandStart c b
      = { d with wd := (d.wd.commandCommon b).startTypeIIIII c d.ready d.drive.writeProtected b } := by
  have typeII : (!b.getLsbD 7) = false := by revert b; decide
  simp only [Disk.commandStart, Disk.setWd, typeII, Bool.false_eq_true, if_false]

theorem commandWrite_drives : (d.commandWrite c b).drives = d.drives := by
  unfold Disk.commandWrite
  (repeat' split) <;> rfl

/-- A write of the command register, after the catch-up, is ignored while held in reset (47 R602). -/
theorem wdCommand_disk (s : State) (b : Byte) {d : Disk} (hd : d = s.disk.catchUp s.cfg s.clock.absTime) :
    (wdCommand b s).disk = if d.wd.heldInReset then d else d.commandWrite s.cfg b := by
  rw [hd]
  rfl

end

/-- What the write of a command byte does, by the controller's state and the byte's kind (47 R602, R631, R651). -/
theorem wdClaim_of_byte {i : Instr} {b : Byte} {s : State} (henc : encode i = [b])
    (hexec : exec i s = .next (wdCommand b s)) : wdClaim i b s := by
  refine ⟨henc, _, hexec, ?_⟩
  dsimp only
  generalize hd : s.disk.catchUp s.cfg s.clock.absTime = d
  have disk := wdCommand_disk s b hd.symm
  have runs (running : d.wd.heldInReset = false) : (wdCommand b s).disk = d.commandWrite s.cfg b := by
    rw [disk, running, if_neg Bool.false_ne_true]
  refine ⟨rfl, ?_, ?_, ?_, ?_, ?_, ?_, ?_⟩
  · rw [disk]
    split
    · rfl
    · exact commandWrite_drives
  · intro ignored
    rw [disk]
    split
    · rfl
    · next held =>
      obtain ⟨busy, hk⟩ := ignored.resolve_left held
      rw [commandWrite_busy hk busy]
  · intro running hk
    rw [runs running, commandWrite_force hk]
    exact forceInterrupt_eq b _
  · rintro ⟨running, idle, hk⟩ hkind
    rw [runs running, commandWrite_idle hk idle, commandStart_typeI hkind]
    exact startTypeI_eq b _ hkind
  · rintro ⟨running, idle, hk⟩ hkind hready
    rw [runs running, commandWrite_idle hk idle, commandStart_typeIIIII hkind, hready,
      startTypeIIIII_of_not_ready]
    simp [Wd.finish, Wd.commandCommon]
  · rintro ⟨running, idle, hk⟩ hready writes hwp
    have hkind : 8 ≤ b.toNat / 16 := by omega
    rw [runs running, commandWrite_idle hk idle, commandStart_typeIIIII hkind, hready, hwp,
      startTypeIIIII_of_protected _ _ _ writes]
    simp [Wd.finish, Wd.commandCommon, statusBit]
  · rintro ⟨running, idle, hk⟩ hkind hready allowed
    rw [runs running, commandWrite_idle hk idle, commandStart_typeIIIII hkind, hready,
      startTypeIIIII_of_settles _ _ _ allowed]
    rfl

/-! ## Each command writes the byte it is encoded as (30 R205) -/

section
variable (s : State)

theorem wdClaim_typeI (h v : Bool) (r : BitVec 2) :
    let low := BitVec.ofBool h ++ BitVec.ofBool v ++ r
    wdClaim (.wdRestore h v r) (0b0000#4 ++ low) s
      ∧ wdClaim (.wdSeek h v r) (0b0001#4 ++ low) s
      ∧ ∀ u : Bool, wdClaim (.wdStep u h v r) (0b001#3 ++ BitVec.ofBool u ++ low) s
        ∧ wdClaim (.wdStepIn u h v r) (0b010#3 ++ BitVec.ofBool u ++ low) s
        ∧ wdClaim (.wdStepOut u h v r) (0b011#3 ++ BitVec.ofBool u ++ low) s := by
  have assoc : ∀ (hi : BitVec 4) (h v : Bool) (r : BitVec 2), hi ++ BitVec.ofBool h ++ BitVec.ofBool v ++ r
      = hi ++ (BitVec.ofBool h ++ BitVec.ofBool v ++ r) := by decide
  have claim {i : Instr} (hi : BitVec 4) (henc : encode i = encTypeI hi h v r)
      (hexec : exec i s = .next (wdCommand (typeIByte hi h v r) s)) :
      wdClaim i (hi ++ (BitVec.ofBool h ++ BitVec.ofBool v ++ r)) s := by
    rw [← assoc]
    exact wdClaim_of_byte henc hexec
  exact ⟨claim _ rfl rfl, claim _ rfl rfl, fun u => ⟨claim _ rfl rfl, claim _ rfl rfl, claim _ rfl rfl⟩⟩

/-- The byte given bit by bit is the byte given field by field. -/
theorem wdClaim_of_bits {i : Instr} {b b' : Byte} (henc : encode i = [b]) (hb : b' = b)
    (hexec : exec i s = .next (wdCommand b' s)) : wdClaim i b s := wdClaim_of_byte henc (hb ▸ hexec)

theorem wdClaim_sector (m side e c : Bool) :
    let low := BitVec.ofBool m ++ BitVec.ofBool side ++ BitVec.ofBool e ++ BitVec.ofBool c
    wdClaim (.wdReadSector m side e c) (0b100#3 ++ low ++ 0#1) s
      ∧ ∀ a0 : Bool, wdClaim (.wdWriteSector m side e c a0) (0b101#3 ++ low ++ BitVec.ofBool a0) s := by
  refine ⟨wdClaim_of_bits s ?_ ?_ rfl, fun a0 => wdClaim_of_bits s ?_ ?_ rfl⟩
  · revert m side e c; decide
  · revert m side e c; decide
  · revert m side e c a0; decide
  · revert m side e c a0; decide

theorem wdClaim_track (e : Bool) :
    wdClaim (.wdReadAddress e) (0b11000#5 ++ BitVec.ofBool e ++ 0#2) s
      ∧ wdClaim (.wdReadTrack e) (0b11100#5 ++ BitVec.ofBool e ++ 0#2) s
      ∧ wdClaim (.wdWriteTrack e) (0b11110#5 ++ BitVec.ofBool e ++ 0#2) s := by
  cases e <;> exact ⟨wdClaim_of_byte rfl rfl, wdClaim_of_byte rfl rfl, wdClaim_of_byte rfl rfl⟩

theorem wdClaim_forceInterrupt (cond : BitVec 4) : wdClaim (.wdForceInterrupt cond) (0b1101#4 ++ cond) s :=
  wdClaim_of_byte rfl rfl

end

end Sys2Proof.Machine
end

section
/-! The micro-states of the WD1793 (47 R632 to R650): what no micro-state changes, and the catch-up as its byte
steps. -/

namespace Sys2Proof.Machine

/-! ## The parser of a WRITE TRACK stream -/

/-- The parser after a byte of the stream (47 R650; log 15). -/
def TrackParser.next (p : TrackParser) (v : Byte) : TrackParser :=
  let marked := p.mark = 0xA1A1A1
  { mark := BitVec.ofNat 24 (p.mark.toNat * 256 + v.toNat),
    idLeft := if p.idLeft = 0 ∧ p.dataLeft = 0 ∧ marked ∧ v = 0xFE then 4 else p.idLeft - 1,
    idField := if p.idLeft = 0 then p.idField else p.idField.setIfInBounds (4 - p.idLeft) v,
    dataLeft :=
      if p.idLeft = 0 ∧ 0 < p.dataLeft then p.dataLeft - 1
      else if p.idLeft = 0 ∧ marked ∧ 0xF8 ≤ v.toNat ∧ v.toNat ≤ 0xFB then 256
      else p.dataLeft }

theorem isDataMark_iff (b : Byte) : isDataMark b = true ↔ 0xF8 ≤ b.toNat ∧ b.toNat ≤ 0xFB := by
  revert b; decide

theorem markReady_iff (m : BitVec 24) : markReady m = true ↔ m = 0xA1A1A1 := beq_iff_eq

theorem vector_set_eq_setIfInBounds {α : Type} {n : Nat} (xs : Vector α n) {i : Nat} (h : i < n) (x : α) :
    xs.set i x h = xs.setIfInBounds i x := by
  apply Vector.ext
  intro j hj
  rw [Vector.getElem_set, Vector.getElem_setIfInBounds]

@[simp] theorem writeSectorByte_wd (d : Disk) (r i : Nat) (v : Byte) : (d.writeSectorByte r i v).wd = d.wd := by
  unfold Disk.writeSectorByte; dsimp only; split <;> rfl

/-- A byte of the stream goes to the parser and, inside a data field, to the disk; nothing else changes. -/
theorem feed_eq (d : Disk) (v : Byte) : d.feed v =
    { drives :=
        if d.wd.parser.idLeft = 0 ∧ 0 < d.wd.parser.dataLeft then
          sectorWritten d.wd.parser.idField[2].toNat (256 - d.wd.parser.dataLeft) v d
        else d.drives,
      wd := { d.wd with parser := d.wd.parser.next v } } := by
  unfold Disk.feed TrackParser.next
  generalize d.wd.parser = p
  simp only [shiftMark_eq]
  by_cases hid : p.idLeft = 0
  · by_cases hdata : p.dataLeft = 0
    · by_cases hmark : p.mark = 0xA1A1A1#24
      · have hready : markReady 0xA1A1A1#24 = true := by decide
        by_cases hv : v = 0xFE#8
        · simp [hid, hdata, hready, hmark, hv, Disk.setWd]
        · by_cases hdam : 0xF8 ≤ v.toNat ∧ v.toNat ≤ 0xFB <;>
            simp [hid, hdata, hready, hmark, hv, hdam, isDataMark_iff, Disk.setWd]
      · have hready : ¬ markReady p.mark = true := fun h => hmark ((markReady_iff _).mp h)
        simp [hid, hdata, hready, hmark, Disk.setWd]
    · have inside : 0 < p.dataLeft := by omega
      simp [hid, hdata, inside, Disk.setWd, writeSectorByte_drives]
  · have inside : 0 < p.idLeft := by omega
    simp [hid, inside, Disk.setWd, vector_set_eq_setIfInBounds]

/-! ## What no micro-state changes -/

/-- The registers that only commands, port writes and the byte step itself change. -/
structure Wd.Setup where
  cmdReg : Byte
  dsr : Byte
  statusType : StatusType
  intCond : BitVec 4
  markShift : BitVec 24
  lastStep : Nat
  heldInReset : Bool
  betaSys : Byte

/-- Those registers of a controller. -/
def Wd.setup (w : Wd) : Wd.Setup :=
  { cmdReg := w.cmdReg, dsr := w.dsr, statusType := w.statusType, intCond := w.intCond, markShift := w.markShift,
    lastStep := w.lastStep, heldInReset := w.heldInReset, betaSys := w.betaSys }

section
variable (c : Cfg) (b : Byte) (ready index : Bool) (w : Wd) (d : Disk)

@[simp] theorem finish_setup : w.finish.setup = w.setup := rfl
@[simp] theorem lose_setup : w.lose.setup = w.setup := rfl
@[simp] theorem searchFail_setup : w.searchFail.setup = w.setup := rfl
@[simp] theorem storeId_setup : (w.storeId b).setup = w.setup := rfl
@[simp] theorem deliver_setup : (w.deliver b).setup = w.setup := by
  unfold Wd.deliver; cases w.drq <;> rfl
@[simp] theorem take_setup : w.take.2.setup = w.setup := by
  unfold Wd.take; cases w.drq <;> rfl
@[simp] theorem verifyOrEnd_setup : (w.verifyOrEnd c).setup = w.setup := by
  unfold Wd.verifyOrEnd; split <;> rfl
@[simp] theorem t1StepWait_setup : w.t1StepWait.setup = w.setup := by
  unfold Wd.t1StepWait; dsimp only; split <;> rfl
@[simp] theorem t1Settle_setup : w.t1Settle.setup = w.setup := by
  unfold Wd.t1Settle; dsimp only; split <;> rfl
@[simp] theorem t1Verify_setup : (w.t1Verify ready b).setup = w.setup := by
  unfold Wd.t1Verify; dsimp only; (repeat' split) <;> rfl
@[simp] theorem t2Settle_setup : w.t2Settle.setup = w.setup := by
  unfold Wd.t2Settle; dsimp only; (repeat' split) <;> rfl
@[simp] theorem t2Search_setup : (w.t2Search ready b).setup = w.setup := by
  unfold Wd.t2Search; (repeat' split) <;> rfl
@[simp] theorem t2Id_setup : (w.t2Id b).setup = w.setup := by
  unfold Wd.t2Id; dsimp only; (repeat' split) <;> rfl
@[simp] theorem t2Dam_setup : (w.t2Dam b).setup = w.setup := by
  unfold Wd.t2Dam; dsimp only; (repeat' split) <;> rfl
@[simp] theorem nextSector_setup (formatted : Bool) : (w.nextSector c formatted).setup = w.setup := by
  unfold Wd.nextSector; dsimp only; (repeat' split) <;> rfl
@[simp] theorem t2Crc_setup (formatted : Bool) : (w.t2Crc c formatted).setup = w.setup := by
  unfold Wd.t2Crc; dsimp only
  split
  · split
    · rfl
    · exact nextSector_setup _ _ _
  · rfl
@[simp] theorem t2Wgap_setup : w.t2Wgap.setup = w.setup := by
  unfold Wd.t2Wgap; dsimp only; (repeat' split) <;> rfl
@[simp] theorem t3Ra_setup : (w.t3Ra b).setup = w.setup := by
  unfold Wd.t3Ra; dsimp only
  split <;> exact deliver_setup b w
@[simp] theorem t3Rt_setup : (w.t3Rt b).setup = w.setup := by
  unfold Wd.t3Rt; dsimp only
  split <;> exact deliver_setup b w
@[simp] theorem t3RtIndex_setup : (w.t3RtIndex index b).setup = w.setup := by
  unfold Wd.t3RtIndex
  split
  · exact t3Rt_setup _ _
  · rfl
@[simp] theorem t3WtDrq_setup : w.t3WtDrq.setup = w.setup := by
  unfold Wd.t3WtDrq; dsimp only; (repeat' split) <;> rfl

@[simp] theorem feed_setup (v : Byte) : (d.feed v).wd.setup = d.wd.setup := by
  rw [feed_eq]; rfl
@[simp] theorem foldl_feed_setup (bs : List Byte) : (bs.foldl Disk.feed d).wd.setup = d.wd.setup :=
  List.foldlRecOn (motive := fun e => e.wd.setup = d.wd.setup) bs _ rfl fun e he v _ => (feed_setup e v).trans he
@[simp] theorem stepHead_setup : (d.stepHead c).wd.setup = d.wd.setup := by
  unfold Disk.stepHead; dsimp only; split <;> rfl
@[simp] theorem stepOrStop_setup : (d.stepOrStop c).wd.setup = d.wd.setup := by
  unfold Disk.stepOrStop
  split
  · exact verifyOrEnd_setup _ _
  · exact stepHead_setup _ _
@[simp] theorem t1Decide_setup : (d.t1Decide c).wd.setup = d.wd.setup := by
  unfold Disk.t1Decide; dsimp only
  split
  · split
    · split
      · rfl
      · exact verifyOrEnd_setup _ _
    · exact stepOrStop_setup _ _
  · split
    · exact verifyOrEnd_setup _ _
    · exact stepOrStop_setup _ _
@[simp] theorem t2Read_setup : (d.t2Read b).wd.setup = d.wd.setup := by
  unfold Disk.t2Read Disk.setWd; dsimp only
  generalize (if d.wd.fastXfer then d.fastByte else b) = v
  split <;> exact deliver_setup v d.wd
@[simp] theorem t2Write_setup : d.t2Write.wd.setup = d.wd.setup := by
  unfold Disk.t2Write; dsimp only
  split <;> exact take_setup _
@[simp] theorem t3Wt_setup : d.t3Wt.wd.setup = d.wd.setup := by
  unfold Disk.t3Wt Disk.setWd; dsimp only
  have fed := foldl_feed_setup { d with wd := { d.wd.take.2 with drq := true } } (emitBytes d.wd.take.1)
  split <;> exact fed.trans (take_setup _)
@[simp] theorem t3WtIndex_setup : (d.t3WtIndex index).wd.setup = d.wd.setup := by
  unfold Disk.t3WtIndex
  split
  · exact t3Wt_setup _
  · rfl

/-- No micro-state changes the setup. -/
theorem act_setup : (d.act c index b).wd.setup = d.wd.setup := by
  unfold Disk.act
  split <;> simp [Disk.setWd]

theorem act_markShift : (d.act c index b).wd.markShift = d.wd.markShift :=
  congrArg Wd.Setup.markShift (act_setup c b index d)
theorem act_lastStep : (d.act c index b).wd.lastStep = d.wd.lastStep :=
  congrArg Wd.Setup.lastStep (act_setup c b index d)

end

/-! ## The catch-up -/

theorem byteStep_lastStep (c : Cfg) (k : Nat) (d : Disk) : (d.byteStep c k).wd.lastStep = d.wd.lastStep := by
  rw [byteStep_eq]
  split
  · exact indexed_lastStep k d
  · exact (act_lastStep c _ _ { d with wd := indexed k d }).trans (indexed_lastStep k d)

theorem byteSteps_lastStep (c : Cfg) (k n : Nat) (d : Disk) : (d.byteSteps c k n).wd.lastStep = d.wd.lastStep := by
  induction n generalizing k d with
  | zero => rfl
  | succ n ih => exact (ih _ _).trans (byteStep_lastStep c _ d)

theorem byteStepsFrom_succ (c : Cfg) (k n : Nat) (d : Disk) :
    byteStepsFrom c k (n + 1) d = byteStepsFrom c (k + 1) n (d.byteStep c (k + 1)) := by
  simp only [byteStepsFrom, List.range_succ_eq_map, List.foldl_cons, List.foldl_map, Nat.succ_eq_add_one,
    Nat.add_assoc, Nat.add_comm 1]

theorem byteSteps_eq (c : Cfg) (k n : Nat) (d : Disk) : d.byteSteps c k n = byteStepsFrom c k n d := by
  induction n generalizing k d with
  | zero => rfl
  | succ n ih => rw [Disk.byteSteps, ih, byteStepsFrom_succ]

/-- A catch-up runs the byte steps due since the last one, in order (47 R632). -/
theorem catchUp_eq (c : Cfg) (now : Nat) (d : Disk) :
    let n := now / c.diskByteTstates
    let e := byteStepsFrom c d.wd.lastStep (n - d.wd.lastStep) d
    d.catchUp c now = { e with wd := { e.wd with lastStep := max d.wd.lastStep n } } := by
  simp only [Disk.catchUp, Disk.setWd, byteSteps_eq]
  rw [← byteSteps_eq, byteSteps_lastStep]

/-- A delay in byte steps is its time rounded up (47 R633). -/
theorem msToSteps_bounds {c : Cfg} (ms : Nat) (h : 1 ≤ c.diskByteTstates) :
    let step := 1000 * c.diskByteTstates
    ms * (archConfig c).cpuHz ≤ msToSteps c ms * step
      ∧ msToSteps c ms * step < ms * (archConfig c).cpuHz + step := by
  unfold msToSteps
  dsimp only
  generalize hstep : 1000 * c.diskByteTstates = step
  generalize ms * (archConfig c).cpuHz = t
  have hpos : 0 < step := by omega
  have hmod := Nat.mod_lt (t + step - 1) hpos
  have hdiv := Nat.div_add_mod' (t + step - 1) step
  omega

end Sys2Proof.Machine
end

section
/-! Each micro-state of the WD1793 as its clause says it (47 R637 to R650). -/

namespace Sys2Proof.Machine

/-! ## Type I -/

section
variable (c : Cfg) (b : Byte) (w : Wd)

theorem t1StepWait_eq (h : w.state = .t1StepWait) : w.t1StepWait =
    { w with delay := w.delay - 1, state := if w.delay ≤ 1 then .t1Decide else .t1StepWait } := by
  simp only [Wd.t1StepWait, Wd.countDown, Nat.sub_eq_zero_iff_le]
  split
  · rfl
  · rw [← h]

theorem t1Settle_eq : w.t1Settle =
    if w.delay ≤ 1 then { w with delay := 0, revCount := 0, idCapture := false, state := .t1Verify }
    else { w with delay := w.delay - 1 } := by
  simp only [Wd.t1Settle, Wd.countDown, Nat.sub_eq_zero_iff_le]
  split
  · next hd => rw [Nat.sub_eq_zero_of_le hd]
  · rfl

/-- The ID search (47 R637). -/
theorem search_eq (ready : Bool) (found : Wd) :
    (if !ready || decide (5 ≤ w.revCount) then w.searchFail
      else if markReady w.markShift && b == 0xFE then found else w)
    = if ready = false ∨ 5 ≤ w.revCount then { w with statusReg := w.statusReg ||| 0x10 }.finish
      else if w.markShift = 0xA1A1A1 ∧ b = 0xFE then found else w := by
  simp only [Bool.or_eq_true, Bool.not_eq_true', decide_eq_true_eq, Bool.and_eq_true, markReady_iff, beq_iff_eq,
    searchFail_eq]

theorem t1Verify_of_search (ready : Bool) (h : w.idCapture = false) : w.t1Verify ready b =
    if ready = false ∨ 5 ≤ w.revCount then { w with statusReg := w.statusReg ||| 0x10 }.finish
    else if w.markShift = 0xA1A1A1 ∧ b = 0xFE then { w with byteIndex := 0, idCapture := true } else w := by
  rw [← search_eq, Wd.t1Verify, if_neg (by simp [h])]

theorem t1Verify_of_capture (ready : Bool) (h : w.idCapture = true) : w.t1Verify ready b =
    let stored := { w with idBuf := w.idBuf.setIfInBounds w.byteIndex b, byteIndex := w.byteIndex + 1 }
    if w.byteIndex = 5 then
      (if stored.idBuf[0] = w.trackReg then { stored with idCapture := false }.finish
       else { stored with idCapture := false })
    else stored := by
  simp only [Wd.t1Verify, if_pos h, storeId_eq, Nat.reduceEqDiff]
  

theorem t2Settle_eq : w.t2Settle =
    if w.delay ≤ 1 then
      let x := { w with delay := 0, headLoaded := true, revCount := 0 }
      if w.cmdReg.toNat / 16 = 14 then { x with state := .t3RtIndex }
      else if w.cmdReg.toNat / 16 = 15 then { x with drq := true, stepState := 0, state := .t3WtDrq }
      else { x with state := .t2Search }
    else { w with delay := w.delay - 1 } := by
  simp only [Wd.t2Settle, Wd.countDown, isReadTrack, isWriteTrack, Nat.sub_eq_zero_iff_le, beq_iff_eq]
  split
  · next hd => rw [Nat.sub_eq_zero_of_le hd]
  · rfl

theorem t2Search_eq (ready : Bool) : w.t2Search ready b =
    if ready = false ∨ 5 ≤ w.revCount then { w with statusReg := w.statusReg ||| 0x10 }.finish
    else if w.markShift = 0xA1A1A1 ∧ b = 0xFE then
      { w with byteIndex := 0, state := if w.cmdReg.toNat / 16 = 12 then .t3Ra else .t2Id }
    else w := by
  rw [← search_eq, Wd.t2Search, isReadAddress]
  simp only [beq_iff_eq]

theorem idMatches_iff : w.idMatches = true ↔
    w.idBuf[0] = w.trackReg ∧ w.idBuf[2] = w.sectorReg
      ∧ (w.cmdReg.getLsbD 1 = true → w.idBuf[1].toNat = if w.cmdReg.getLsbD 3 then 1 else 0) := by
  have side : (w.idBuf[1] == Wd.idMatches.zeroOrOne (w.cmdReg.getLsbD 3)) = true
      ↔ w.idBuf[1].toNat = if w.cmdReg.getLsbD 3 then 1 else 0 := by
    generalize w.idBuf[1] = v, w.cmdReg.getLsbD 3 = s
    revert v s
    decide
  rw [Wd.idMatches, Bool.and_eq_true, Bool.and_eq_true, beq_iff_eq, beq_iff_eq, Bool.or_eq_true, side,
    Bool.not_eq_true', and_assoc]
  cases w.cmdReg.getLsbD 1 <;> simp

theorem t2Id_eq : w.t2Id b =
    let stored := { w with idBuf := w.idBuf.setIfInBounds w.byteIndex b, byteIndex := w.byteIndex + 1 }
    if w.byteIndex = 5 then
      (if stored.idBuf[0] = w.trackReg ∧ stored.idBuf[2] = w.sectorReg
          ∧ (w.cmdReg.getLsbD 1 = true →
              stored.idBuf[1].toNat = if w.cmdReg.getLsbD 3 then 1 else 0) then
        (if w.cmdReg.toNat / 32 = 5 then
          { stored with drq := true, stepState := 0, state := .t2Wgap }
         else { stored with stepState := 0, state := .t2Dam })
       else { stored with state := .t2Search })
    else stored := by
  simp only [Wd.t2Id, storeId_eq, idMatches_iff, isWriteSector, beq_iff_eq, Nat.reduceEqDiff]

theorem t2Dam_eq (h : w.state = .t2Dam) : w.t2Dam b =
    if w.markShift = 0xA1A1A1 ∧ 0xF8 ≤ b.toNat ∧ b.toNat ≤ 0xFB then
      { w with stepState := w.stepState + 1, byteIndex := 0, state := .t2Read }
    else
      { w with stepState := w.stepState + 1, state := if 43 ≤ w.stepState then .t2Search else .t2Dam } := by
  simp only [Wd.t2Dam, Bool.and_eq_true, markReady_iff, isDataMark_iff]
  split
  · rfl
  · by_cases hs : 43 ≤ w.stepState
    · rw [if_pos hs, if_pos (by omega)]
    · rw [if_neg hs, if_neg (by omega), ← h]

theorem nextSector_eq (formatted : Bool) : w.nextSector c formatted =
    let writes := w.cmdReg.toNat / 32 = 5
    if c.fastMode = false then { w with revCount := 0, state := .t2Search }
    else if formatted = true ∧ 1 ≤ w.sectorReg.toNat ∧ w.sectorReg.toNat ≤ 16 then
     { w with byteIndex := 0, fastXfer := true, drq := decide writes || w.drq,
              state := if writes then .t2Write else .t2Read }
    else { w with statusReg := w.statusReg ||| 0x10 }.finish := by
  unfold Wd.nextSector
  cases c.fastMode with
  | false => rfl
  | true =>
    simp only [isWriteSector, beq_iff_eq, searchFail_eq, Bool.and_eq_true, decide_eq_true_eq, and_assoc, if_true,
      Bool.true_eq_false, if_false]
    split
    · by_cases writes : w.cmdReg.toNat / 32 = 5 <;> simp [writes]
    · rfl

theorem t2Crc_eq (formatted : Bool) : w.t2Crc c formatted =
    let x := { w with stepState := w.stepState + 1 }
    let next := (w.sectorReg + 1).toNat
    let y := { x with sectorReg := w.sectorReg + 1 }
    let writes := w.cmdReg.toNat / 32 = 5
    if w.stepState ≠ 1 then x
    else if w.lostData = true ∨ w.cmdReg.getLsbD 4 = false then x.finish
    else if c.fastMode = false then { y with revCount := 0, state := .t2Search }
    else if formatted = true ∧ 1 ≤ next ∧ next ≤ 16 then
     { y with byteIndex := 0, fastXfer := true, drq := decide writes || w.drq,
              state := if writes then .t2Write else .t2Read }
    else { y with statusReg := w.statusReg ||| 0x10 }.finish := by
  simp only [Wd.t2Crc, nextSector_eq, Nat.reduceEqDiff, ite_not, Bool.or_eq_true, Bool.not_eq_true', ne_eq]

theorem t2Wgap_eq : w.t2Wgap =
    let x := { w with stepState := w.stepState + 1 }
    if w.stepState = 10 ∧ w.drq = true then
      { x with lostData := true, statusReg := w.statusReg ||| 0x04 }.finish
    else if w.stepState = 21 then { x with byteIndex := 0, state := .t2Write }
    else x := by
  simp only [Wd.t2Wgap, Wd.lose, Bool.and_eq_true, decide_eq_true_eq, Nat.reduceEqDiff]
  rfl

theorem t3Ra_eq : w.t3Ra b =
    let x := { w.deliver b with
      idBuf := w.idBuf.setIfInBounds w.byteIndex b, byteIndex := w.byteIndex + 1 }
    if w.byteIndex = 5 then { x with sectorReg := x.idBuf[0] }.finish else x := by
  have kept : (w.deliver b).idBuf = w.idBuf ∧ (w.deliver b).byteIndex = w.byteIndex := by
    unfold Wd.deliver
    cases w.drq <;> exact ⟨rfl, rfl⟩
  simp only [Wd.t3Ra, storeId_eq, kept, Nat.reduceEqDiff]

theorem t3WtDrq_eq : w.t3WtDrq =
    let x := { w with stepState := w.stepState + 1 }
    if w.stepState ≠ 2 then x
    else if w.drq = true then { x with lostData := true, statusReg := w.statusReg ||| 0x04 }.finish
    else { x with state := .t3WtIndex } := by
  simp only [Wd.t3WtDrq, Nat.reduceEqDiff, ite_not]
  rfl

end

end Sys2Proof.Machine
end

section
/-! The micro-states that look at the disk: the step of the head, the transfers, the WRITE TRACK stream. -/

namespace Sys2Proof.Machine

/-! ## Bytes delivered and taken -/

section
variable (w : Wd)

theorem deliver_kept (v : Byte) : (w.deliver v).state = w.state ∧ (w.deliver v).byteIndex = w.byteIndex := by
  unfold Wd.deliver
  cases w.drq <;> exact ⟨rfl, rfl⟩

theorem deliver_update (v : Byte) (i : Nat) (st : WdState) :
    ({ w with byteIndex := i, state := st } : Wd).deliver v
      = { w.deliver v with byteIndex := i, state := st } := by
  unfold Wd.deliver
  dsimp only
  split <;> rfl

theorem take_update (i : Nat) (p : TrackParser) (st : WdState) :
    ({ w with byteIndex := i, parser := p, state := st } : Wd).take
      = (w.take.1, { w.take.2 with byteIndex := i, parser := p, state := st }) := by
  unfold Wd.take
  dsimp only
  split <;> rfl

theorem t3Rt_eq (b : Byte) (h : w.state = .t3Rt) : w.t3Rt b =
    let x := { w.deliver b with byteIndex := w.byteIndex + 1, state := .t3Rt }
    if w.byteIndex + 1 = 6250 then x.finish else x := by
  obtain ⟨hstate, hindex⟩ := deliver_kept w b
  rw [← h, ← hstate, ← hindex]
  rfl

theorem t3RtIndex_eq (index : Bool) (b : Byte) : w.t3RtIndex index b =
    if index then { w.deliver b with byteIndex := 1, state := .t3Rt } else w := by
  unfold Wd.t3RtIndex
  rw [t3Rt_eq _ _ rfl, deliver_update]
  rfl

end

/-! ## The controller of a byte step on its disk -/

section
variable {c : Cfg} {d : Disk} {w : Wd} (unit : w.unit = d.wd.unit)
include unit

/-- A step of the head, or the stop at track 0 going out (47 R639). -/
theorem stepOrStop_eq : ({ d with wd := w } : Disk).stepOrStop c =
    if w.dire = false ∧ d.drive.headTrack = 0 then
      { d with wd := { w with trackReg := 0 }.verifyOrEnd c }
    else
      { drives := d.drives.set d.wd.unit
          { d.drive with
            headTrack := if w.dire then min (d.drive.headTrack + 1) 83 else d.drive.headTrack - 1 },
        wd := { w with
          trackReg :=
            if w.cmdReg.toNat < 0x20 ∨ w.cmdReg.getLsbD 4 = true then
              (if w.dire then w.trackReg + 1 else w.trackReg - 1)
            else w.trackReg,
          stepState := 1, delay := msToSteps c (wdStepMs c.wdRateRow (w.cmdReg.toNat % 4)),
          state := .t1StepWait } } := by
  have moved : w.trackReg + (if w.dire then 1 else 255) = if w.dire then w.trackReg + 1 else w.trackReg - 1 := by
    have back : ∀ t : Byte, t + 255 = t - 1 := by decide
    cases w.dire
    · exact back _
    · rfl
  have stops : (!w.dire && ({ d with wd := w } : Disk).tr00) = true ↔ w.dire = false ∧ d.drive.headTrack = 0 := by
    simp [Disk.tr00, drive_of_unit unit]
  unfold Disk.stepOrStop
  simp only [stops]
  split
  · rfl
  · unfold Disk.stepHead Disk.setDrive
    simp only [drive_of_unit unit, unit, isSeekOrRestore_eq, Bool.or_eq_true, decide_eq_true_eq]
    rw [moved]
    split <;> rfl

/-- T1_DECIDE: the track found or not, one step made, or a step to make (47 R639). -/
theorem t1Decide_eq : ({ d with wd := w } : Disk).t1Decide c =
    let head := d.drive.headTrack
    let seeks := w.cmdReg.toNat < 0x20
    let dire := if seeks then decide (w.trackReg.toNat < w.dsr.toNat) else w.dire
    if seeks ∧ w.trackReg = w.dsr then
      { d with wd := if w.cmdReg.toNat < 0x10 ∧ head ≠ 0 then { w with statusReg := w.statusReg ||| 0x10 }.finish
                     else w.verifyOrEnd c }
    else if ¬ seeks ∧ w.stepState = 1 then { d with wd := w.verifyOrEnd c }
    else if dire = false ∧ head = 0 then
      { d with wd := { w with dire := dire, trackReg := 0 }.verifyOrEnd c }
    else
      { drives := d.drives.set d.wd.unit
          { d.drive with headTrack := if dire then min (head + 1) 83 else head - 1 },
        wd := { w with
          dire := dire,
          trackReg :=
            if seeks ∨ w.cmdReg.getLsbD 4 = true then (if dire then w.trackReg + 1 else w.trackReg - 1)
            else w.trackReg,
          stepState := 1, delay := msToSteps c (wdStepMs c.wdRateRow (w.cmdReg.toNat % 4)),
          state := .t1StepWait } } := by
  unfold Disk.t1Decide
  simp only [isSeekOrRestore_eq, isRestore_eq, decide_eq_true_eq]
  by_cases seeks : w.cmdReg.toNat < 0x20
  · by_cases there : w.trackReg = w.dsr
    · have lost : (decide (w.cmdReg.toNat < 16) && !({ d with wd := w } : Disk).tr00) = true
          ↔ w.cmdReg.toNat < 16 ∧ d.drive.headTrack ≠ 0 := by
        simp [Disk.tr00, drive_of_unit unit]
      simp only [eq_true seeks, eq_true there, lost, and_self, if_true, Disk.setWd]
      split <;> rfl
    · rw [if_pos seeks, if_neg there]
      simp only [eq_true seeks, eq_false there, and_false, not_true, false_and, if_true, if_false]
      refine (stepOrStop_eq (w := { w with dire := decide (w.trackReg < w.dsr) }) unit).trans ?_
      simp only [eq_true seeks]
      rfl
  · simp only [eq_false seeks, false_and, not_false_eq_true, true_and, if_false]
    split
    · rfl
    · refine (stepOrStop_eq unit).trans ?_
      simp only [eq_false seeks]

variable (side : w.side = d.wd.side)
include side

theorem sectorWritten_of_unit (r i : Nat) (v : Byte) :
    sectorWritten r i v { d with wd := w } = sectorWritten r i v d := by
  simp only [sectorWritten, formatted_of_unit unit side, drive_of_unit unit, unit, side]

/-- T2_READ: the byte under the head, or the sector's in a FAST_MODE transfer (47 R646, R654). -/
theorem t2Read_eq (b : Byte) : ({ d with wd := w } : Disk).t2Read b =
    let sector := w.sectorReg.toNat
    let v :=
      if w.fastXfer = false then b
      else if d.formatted = true ∧ 1 ≤ sector ∧ sector ≤ 16 then
        sectorData d.drive d.cyl d.wd.side sector w.byteIndex
      else Config.noSectorByte sector w.byteIndex
    let x := { w.deliver v with byteIndex := w.byteIndex + 1 }
    { d with wd := if w.byteIndex = 255 then { x with stepState := 0, state := .t2Crc } else x } := by
  unfold Disk.t2Read Disk.fastByte
  simp only [Disk.setWd, deliver_kept, formatted_of_unit unit side, drive_of_unit unit, cyl_of_unit unit, side,
    Bool.and_eq_true, decide_eq_true_eq, and_assoc, Nat.reduceEqDiff]
  cases w.fastXfer <;> rfl

/-- T2_WRITE: the byte taken goes to the sector (47 R647, R654; log 29). -/
theorem t2Write_eq : ({ d with wd := w } : Disk).t2Write =
    let r := if w.fastXfer then w.sectorReg.toNat else w.idBuf[2].toNat
    let x := { w.take.2 with byteIndex := w.byteIndex + 1 }
    { drives := sectorWritten r w.byteIndex w.take.1 d,
      wd := if w.byteIndex = 255 then { x with stepState := 0, state := .t2Crc } else { x with drq := true } } := by
  unfold Disk.t2Write
  simp only [writeSectorByte_drives, sectorWritten_of_unit unit side, Nat.reduceEqDiff]
  by_cases last : w.byteIndex = 255 <;> simp [last]

end

/-! ## The WRITE TRACK stream -/

/-- What is fed to the parser depends on no place in the track and on no micro-state, and keeps both. -/
theorem foldl_feed_update (i : Nat) (st : WdState) (bs : List Byte) (d : Disk) :
    bs.foldl Disk.feed { d with wd := { d.wd with byteIndex := i, state := st } } =
      { bs.foldl Disk.feed d with wd := { (bs.foldl Disk.feed d).wd with byteIndex := i, state := st } } := by
  induction bs generalizing d with
  | nil => rfl
  | cons v bs ih =>
    have fed : ({ d with wd := { d.wd with byteIndex := i, state := st } } : Disk).feed v
        = { d.feed v with wd := { (d.feed v).wd with byteIndex := i, state := st } } := by
      rw [feed_eq, feed_eq]
      rfl
    rw [List.foldl_cons, fed, ih, List.foldl_cons]

/-- T3_WT: the byte taken is fed to the parser as the bytes it stands for (47 R650). -/
theorem t3Wt_eq (d : Disk) (i : Nat) (p : TrackParser) :
    ({ d with wd := { d.wd with byteIndex := i, parser := p, state := .t3Wt } } : Disk).t3Wt =
    let e := (emitBytes d.wd.take.1).foldl Disk.feed
      { d with wd := { d.wd.take.2 with drq := true, parser := p } }
    { drives := e.drives,
      wd :=
        let x := { e.wd with byteIndex := i + 1, state := .t3Wt }
        if i + 1 = 6250 then x.finish else x } := by
  have fed := foldl_feed_update i .t3Wt (emitBytes d.wd.take.1)
    { d with wd := { d.wd.take.2 with drq := true, parser := p } }
  simp only [Disk.t3Wt, take_update]
  simp only [fed]
  rfl

end Sys2Proof.Machine
end

section
/-! The byte steps of the WD1793, clause by clause, and the statement about its commands (47 R630 to R655). -/

namespace Sys2Proof.Machine

section
variable {c : Cfg} {k : Nat} {d : Disk} (held : d.wd.heldInReset = false)
include held

/-- A byte step of a running controller, from what the action of its micro-state answers. -/
theorem byteStepGives_of_action {drives : Vector Drive 4} {w : Wd}
    (action : ({ d with wd := indexed k d } : Disk).act c (d.indexPulse k) (d.trackByteAt (k % 6250))
      = { drives := drives, wd := w }) : byteStepGives c k d drives w := by
  refine byteStepGives_of_act held action ?_
  rw [← indexed_markShift k d, ← act_markShift c _ _ { d with wd := indexed k d }, action]

/-- A byte step whose micro-state changes the controller only. -/
theorem byteStepGives_of_setWd {f : Wd → Wd} {w : Wd}
    (action : ({ d with wd := indexed k d } : Disk).act c (d.indexPulse k) (d.trackByteAt (k % 6250))
      = ({ d with wd := indexed k d } : Disk).setWd f)
    (hf : f (indexed k d) = w) : byteStepGives c k d d.drives w :=
  byteStepGives_of_action held (by rw [action, Disk.setWd, hf])

theorem byteStepGives_idle (h : d.wd.state = .idle) : byteStepGives c k d d.drives (indexed k d) :=
  byteStepGives_of_action held (by simp only [Disk.act, indexed_state, h])

theorem wdTypeIClaim_holds : wdTypeIClaim c k d := by
  have unit := indexed_unit k d
  refine ⟨fun h => ?_, fun h => ?_, fun h => ?_⟩
  · have decided {drives : Vector Drive 4} {w : Wd}
        (answer : ({ d with wd := indexed k d } : Disk).t1Decide c = { drives := drives, wd := w }) :
        byteStepGives c k d drives w := byteStepGives_of_action held (by simp only [Disk.act, h, answer])
    dsimp only
    split
    · next there =>
      refine decided ((t1Decide_eq unit).trans ((if_pos there).trans ?_))
      simp only [verifyOrEnd_eq]
    · next notThere =>
      split
      · next stepped =>
        refine decided ((t1Decide_eq unit).trans ((if_neg notThere).trans ((if_pos stepped).trans ?_)))
        simp only [verifyOrEnd_eq]
      · next moves =>
        have headed := (t1Decide_eq (c := c) unit).trans ((if_neg notThere).trans (if_neg moves))
        by_cases stops : (if (indexed k d).cmdReg.toNat < 0x20 then
            decide ((indexed k d).trackReg.toNat < (indexed k d).dsr.toNat) else (indexed k d).dire) = false
              ∧ d.drive.headTrack = 0
        · rw [if_pos stops]
          refine decided (headed.trans ((if_pos stops).trans ?_))
          simp only [verifyOrEnd_eq]
        · rw [if_neg stops]
          exact decided (headed.trans (if_neg stops))
  · exact byteStepGives_of_setWd held (by simp only [Disk.act, h]) (t1StepWait_eq _ h)
  · exact byteStepGives_of_setWd held (by simp only [Disk.act, h]) (t1Settle_eq _)

theorem wdSearchClaim_holds : wdSearchClaim c k d := by
  have ready := ready_of_unit (indexed_unit k d)
  refine ⟨fun h capture => ?_, fun h capture => ?_, fun h => ?_, fun h => ?_⟩
  · exact byteStepGives_of_setWd held (by simp only [Disk.act, h, ready]) (t1Verify_of_search _ _ _ capture)
  · exact byteStepGives_of_setWd held (by simp only [Disk.act, h, ready]) (t1Verify_of_capture _ _ d.ready capture)
  · exact byteStepGives_of_setWd held (by simp only [Disk.act, h, ready]) (t2Search_eq _ _ _)
  · exact byteStepGives_of_setWd held (by simp only [Disk.act, h]) (t2Id_eq _ _)

theorem wdSectorClaim_holds : wdSectorClaim c k d := by
  have unit := indexed_unit k d
  have side := indexed_side k d
  have formatted := formatted_of_unit unit side
  refine ⟨fun h => ?_, fun h => ?_, fun h => ?_, fun h => ?_, fun h => ?_, fun h => ?_⟩
  · exact byteStepGives_of_setWd held (by simp only [Disk.act, h]) (t2Settle_eq _)
  · exact byteStepGives_of_setWd held (by simp only [Disk.act, h]) (t2Dam_eq _ _ h)
  · refine byteStepGives_of_action held ?_
    simp only [Disk.act, h]
    exact t2Read_eq unit side _
  · exact byteStepGives_of_setWd held (by simp only [Disk.act, h, formatted]) (t2Crc_eq _ _ _)
  · exact byteStepGives_of_setWd held (by simp only [Disk.act, h]) (t2Wgap_eq _)
  · refine byteStepGives_of_action held ?_
    simp only [Disk.act, h]
    exact t2Write_eq unit side

theorem wdTrackClaim_holds : wdTrackClaim c k d := by
  have pulse := indexPulse_iff k d
  refine ⟨fun h => ?_, fun h => ?_, fun h => ?_, fun h => ?_, fun h => ?_, fun h => ?_⟩
  · exact byteStepGives_of_setWd held (by simp only [Disk.act, h]) (t3Ra_eq _ _)
  · refine byteStepGives_of_setWd held (f := Wd.t3RtIndex (d.indexPulse k) _) (by simp only [Disk.act, h]; rfl) ?_
    simp only [t3RtIndex_eq, pulse]
  · exact byteStepGives_of_setWd held (by simp only [Disk.act, h]) (t3Rt_eq _ _ h)
  · exact byteStepGives_of_setWd held (by simp only [Disk.act, h]) (t3WtDrq_eq _)
  · dsimp only
    split
    · next started =>
      refine byteStepGives_of_action held ?_
      simp only [Disk.act, h, Disk.t3WtIndex, pulse.mpr started, if_true]
      exact t3Wt_eq { d with wd := indexed k d } 0 TrackParser.reset
    · next waits =>
      refine byteStepGives_of_action held ?_
      simp only [Disk.act, h, Disk.t3WtIndex, pulse, waits, if_false]
  · refine byteStepGives_of_action held ?_
    simp only [Disk.act, h]
    refine Eq.trans ?_ (t3Wt_eq { d with wd := indexed k d } (indexed k d).byteIndex (indexed k d).parser)
    rw [← h]

end

/-- While held in reset only the index bookkeeping runs (log 24). -/
theorem byteStep_of_held (c : Cfg) (k : Nat) {d : Disk} (held : d.wd.heldInReset = true) :
    d.byteStep c k = { d with wd := indexed k d } := (byteStep_eq c k d).trans (if_pos held)

theorem parserClaim_holds (d : Disk) (v : Byte) : parserClaim d v := by
  unfold parserClaim
  rw [feed_eq]
  exact ⟨rfl, rfl, rfl, rfl, rfl, rfl⟩

/-- Settles O55: the eleven commands by the byte each writes, the catch-up as its byte steps, and each micro-state by
its clause. -/
theorem wdCommands : Obligations.WdCommands :=
  ⟨fun s => ⟨wdClaim_typeI s, wdClaim_sector s, wdClaim_track s, wdClaim_forceInterrupt s⟩,
    catchUp_eq, fun _ ms h => msToSteps_bounds ms h, ⟨rfl, rfl⟩,
    fun c k _ => ⟨byteStep_of_held c k, fun held =>
      ⟨byteStepGives_idle held, wdTypeIClaim_holds held, wdSearchClaim_holds held, wdSectorClaim_holds held,
        wdTrackClaim_holds held⟩⟩,
    parserClaim_holds⟩

end Sys2Proof.Machine
end

section
/-! What an instruction leaves, bus operation by bus operation: one rule each, from which the statements about
what changes and what does not are read off (20 R120 to R132; 40 R250, R252). -/

namespace Sys2Proof.Machine

/-- From `s` the machine has come to `t` along the bus sequence `bus`, which the registers and the draws are
hidden from: the registers are `c`, the page table is `pg`, the bytes `ws` are stored, and nothing else changed. -/
structure Ran (s t bus : State) (pg : Paging) (c : Cpu) (ws : List (Word × Byte)) : Prop where
  state : t = { s with cpu := c, paging := pg, clock := bus.clock, framebuffer := bus.framebuffer,
                       ram := storeAll pg s.ram ws }
  hidden : t = bus.hide c s.drawCount

theorem storeAll_concat (pg : Paging) (ram : Memory) (ws : List (Word × Byte)) (a : Word) (v : Byte) :
    storeAll pg ram (ws ++ [(a, v)]) = writeThrough pg (storeAll pg ram ws) a v :=
  List.foldl_concat _ _ _ _

/-- A change of the registers that neither reads nor moves PC. -/
def KeepsPc (f : Cpu → Cpu) : Prop :=
  ∀ (c : Cpu) (k : Word), { f c with pc := (f c).pc + k } = f { c with pc := c.pc + k }

theorem keepsPc_setReg (r : Reg8) (v : Byte) : KeepsPc fun c => c.setReg r v := fun _ _ => by cases r <;> rfl
theorem keepsPc_copyReg (r r2 : Reg8) : KeepsPc fun c => c.setReg r (c.reg r2) := fun _ _ => by cases r <;> rfl
theorem keepsPc_setPair (p : RegPair) (w : Word) : KeepsPc fun c => c.setPair p w := fun _ _ => by cases p <;> rfl
theorem keepsPc_setStackPair (p : StackPair) (w : Word) : KeepsPc fun c => c.setStackPair p w :=
  fun _ _ => by cases p <;> rfl
theorem keepsPc_setIdx (i : Idx) (w : Word) : KeepsPc fun c => c.setIdx i w := fun _ _ => by cases i <;> rfl
theorem keepsPc_setHalf (i : Idx) (h : Half) (v : Byte) : KeepsPc fun c => c.setHalf i h v :=
  fun _ _ => by cases h <;> exact keepsPc_setIdx i _ _ _
theorem keepsPc_copyHalfReg (i : Idx) (r r2 : HalfReg) : KeepsPc fun c => c.setHalfReg i r (c.halfReg i r2) :=
  fun _ _ => by cases r <;> cases i <;> rfl

section
variable {s t b bus : State} {pg : Paging} {c : Cpu} {ws : List (Word × Byte)}

theorem Ran.cpu (h : Ran s t bus pg c ws) : t.cpu = c := by rw [h.state]

theorem Ran.drawCount (h : Ran s t bus pg c ws) : t.drawCount = s.drawCount := by rw [h.state]

/-! ## The rules of the operations that move time and memory -/

theorem ran_start (s : State) : Ran s s s s.paging s.cpu [] := ⟨rfl, rfl⟩

/-- What moves time alone, and is blind to the registers and the draws, moves the bus sequence with it. -/
theorem Ran.time (h : Ran s t bus pg c ws) {f : State → State} (time : ∀ u, TimeOnly u (f u))
    (hide : ∀ d n u, f (u.hide d n) = (f u).hide d n) : Ran s (f t) (f bus) pg c ws := by
  have moved : f t = (f bus).hide c s.drawCount := by rw [h.hidden, hide]
  refine ⟨?_, moved⟩
  calc f t = { t with clock := (f t).clock, framebuffer := (f t).framebuffer } := time t
    _ = _ := by rw [moved, h.state]; rfl

theorem Ran.skipRead (h : Ran s t bus pg c ws) (a : Word) : Ran s (skipRead a t) (skipRead a bus) pg c ws :=
  h.time (skipRead_timeOnly a) (skipRead_hide a)

theorem Ran.internal (h : Ran s t bus pg c ws) (a : Word) (n : Nat) :
    Ran s (internal a n t) (internal a n bus) pg c ws :=
  h.time (internal_timeOnly a n) (internal_hide a n)

/-- IR is read from the state itself, so no register may have moved apart from the bus sequence. -/
theorem Ran.internalIr (h : Ran s b b pg c ws) (n : Nat) : Ran s (internalIr n b) (internalIr n b) pg c ws :=
  h.internal b.ir n

theorem Ran.writeByte (h : Ran s t bus pg c ws) (a : Word) (v : Byte) :
    Ran s (t.writeByte a v) (bus.writeByte a v) pg c (ws ++ [(a, v)]) := by
  refine ⟨?_, by rw [h.hidden]; rfl⟩
  rw [h.state, storeAll_concat]
  rfl

theorem Ran.memWrite (h : Ran s t bus pg c ws) (a : Word) (v : Byte) :
    Ran s (memWrite a v t) (memWrite a v bus) pg c (ws ++ [(a, v)]) :=
  (h.time (chargeCycle_timeOnly a 3) (chargeCycle_hide a 3)).writeByte a v

theorem Ran.memWriteWord (h : Ran s t bus pg c ws) (a w : Word) :
    Ran s (memWriteWord a w t) (memWriteWord a w bus) pg c (ws ++ [(a, loByte w)] ++ [(a + 1, hiByte w)]) :=
  (h.memWrite a (loByte w)).memWrite (a + 1) (hiByte w)

/-! ## The rules of the registers and the draws -/

theorem Ran.mapCpu (h : Ran s t bus pg c ws) (f : Cpu → Cpu) : Ran s (t.mapCpu f) bus pg (f c) ws := by
  refine ⟨?_, by rw [h.hidden]; rfl⟩
  rw [h.state]
  rfl

theorem Ran.setA (h : Ran s t bus pg c ws) (v : Byte) : Ran s (t.setA v) bus pg { c with a := v } ws :=
  h.mapCpu fun c => { c with a := v }

theorem Ran.setF (h : Ran s t bus pg c ws) (v : Byte) : Ran s (t.setF v) bus pg { c with f := v } ws :=
  h.mapCpu fun c => { c with f := v }

theorem Ran.setAF (h : Ran s t bus pg c ws) (v w : Byte) :
    Ran s (t.setAF v w) bus pg { c with a := v, f := w } ws :=
  h.mapCpu fun c => { c with a := v, f := w }

theorem Ran.setSp (h : Ran s t bus pg c ws) (a : Word) : Ran s (t.setSp a) bus pg { c with sp := a } ws :=
  h.mapCpu fun c => { c with sp := a }

theorem Ran.skip (h : Ran s t bus pg c ws) (k : Nat) :
    Ran s (t.skip k) bus pg { c with pc := c.pc + BitVec.ofNat 16 k } ws :=
  h.mapCpu fun c => { c with pc := c.pc + BitVec.ofNat 16 k }

/-- Registers changed, then PC moved: the change may be made after PC has moved. -/
theorem Ran.mapCpu_skip (h : Ran s t bus pg c ws) {f : Cpu → Cpu} (keeps : KeepsPc f) (k : Nat) :
    Ran s ((t.mapCpu f).skip k) bus pg (f { c with pc := c.pc + BitVec.ofNat 16 k }) ws :=
  keeps c (BitVec.ofNat 16 k) ▸ (h.mapCpu f).skip k

theorem Ran.drawBool_fst (h : Ran s t bus pg c ws) : (drawBool t).1 = Config.drawBool s.drawCount :=
  congrArg Config.drawBool h.drawCount

theorem Ran.drawBool (h : Ran s t bus pg c ws) :
    Ran { s with drawCount := s.drawCount + 1 } (drawBool t).2 bus pg c ws := by
  refine ⟨?_, by rw [h.hidden]; rfl⟩
  rw [h.state]
  rfl

/-- F set from two draws, the first of them first. -/
theorem Ran.setF_drawTwo (h : Ran s t bus pg c ws) (f : Bool → Bool → Byte) :
    Ran { s with drawCount := s.drawCount + 2 }
      ((Machine.drawBool (Machine.drawBool t).2).2.setF
        (f (Machine.drawBool t).1 (Machine.drawBool (Machine.drawBool t).2).1)) bus pg
      { c with f := f (Config.drawBool s.drawCount) (Config.drawBool (s.drawCount + 1)) } ws := by
  rw [h.drawBool_fst, h.drawBool.drawBool_fst]
  exact h.drawBool.drawBool.setF _

/-- What registers and draws the bus sequence itself ends with tells nothing. -/
theorem Ran.hideBus (h : Ran s t bus pg c ws) (d : Cpu) (n : Nat) : Ran s t (bus.hide d n) pg c ws :=
  ⟨h.state, h.hidden⟩

/-! ## The instruction's own bytes -/

theorem Ran.fetch (h : Ran s b b pg c []) (a : Word) :
    Ran s (fetch a b) (fetch a b) (fetchPaging s.cfg pg a) { c with r := nextR c.r } [] := by
  have paged : Ran s { b with paging := fetchPaging b.cfg b.paging a }
      { b with paging := fetchPaging b.cfg b.paging a } (fetchPaging s.cfg pg a) c [] := by
    refine ⟨?_, ?_⟩
    · rw [h.state]
      rfl
    · conv_lhs => rw [h.hidden]
      rfl
  exact ((paged.time (chargeCycle_timeOnly a 4) (chargeCycle_hide a 4)).mapCpu
    fun c => { c with r := nextR c.r }).hideBus _ _

end

section
variable (s : State)

theorem ran_fetchOp : Ran s (fetchOp s) (fetchOp s) (pagingAfter1 s) (ran1 s s.cpu.pc) [] :=
  (ran_start s).fetch s.cpu.pc

theorem ran_fetchOpN : Ran s (fetchOpN s) (fetchOpN s) (pagingAfter1 s) (ran1 s s.cpu.pc) [] :=
  (ran_fetchOp s).skipRead _

theorem ran_fetchOpNn : Ran s (fetchOpNn s) (fetchOpNn s) (pagingAfter1 s) (ran1 s s.cpu.pc) [] :=
  (ran_fetchOpN s).skipRead _

theorem ran_fetchOp2 : Ran s (fetchOp2 s) (fetchOp2 s) (pagingAfter2 s) (ran2 s s.cpu.pc) [] :=
  (ran_fetchOp s).fetch (s.cpu.pc + 1)

theorem ran_fetchOp2N : Ran s (fetchOp2N s) (fetchOp2N s) (pagingAfter2 s) (ran2 s s.cpu.pc) [] :=
  (ran_fetchOp2 s).skipRead _

theorem ran_fetchOp2Nn : Ran s (fetchOp2Nn s) (fetchOp2Nn s) (pagingAfter2 s) (ran2 s s.cpu.pc) [] :=
  (ran_fetchOp2N s).skipRead _

theorem ran_fetchIdx : Ran s (fetchIdx s) (fetchIdx s) (pagingAfter2 s) (ran2 s s.cpu.pc) [] :=
  (ran_fetchOp2N s).internal _ _

theorem ran_fetchIdxN : Ran s (fetchIdxN s) (fetchIdxN s) (pagingAfter2 s) (ran2 s s.cpu.pc) [] :=
  (ran_fetchOp2Nn s).internal _ _

end

/-! ## Reads: the byte or word answered, and the state -/

section
variable {s t b bus : State} {pg : Paging} {c : Cpu} {ws : List (Word × Byte)}

theorem Ran.memRead_fst (h : Ran s t bus pg c []) (a : Word) :
    (memRead a t).1 = readThrough pg s.rom s.ram a := by
  rw [Machine.memRead_fst, h.state]
  rfl

theorem Ran.memReadWord_fst (h : Ran s t bus pg c []) (a : Word) :
    (memReadWord a t).1 = mkWord (readThrough pg s.rom s.ram (a + 1)) (readThrough pg s.rom s.ram a) := by
  rw [Machine.memReadWord_fst, h.state]
  rfl

theorem Ran.memReadWord (h : Ran s t bus pg c ws) (a : Word) :
    Ran s (memReadWord a t).2 (Machine.skipRead (a + 1) (Machine.skipRead a bus)) pg c ws :=
  (h.skipRead a).skipRead (a + 1)

theorem Ran.loadA (h : Ran s t bus pg c []) (a : Word) :
    Ran s (loadA a t) (Machine.skipRead a bus) pg { c with a := readThrough pg s.rom s.ram a } [] :=
  h.memRead_fst a ▸ (h.skipRead a).setA _

/-! ## The stack -/

theorem Ran.push (h : Ran s b b pg c ws) (w : Word) : Ran s (push w b) (push w b) pg { c with sp := c.sp - 2 }
    (ws ++ [(c.sp - 1, hiByte w)] ++ [(c.sp - 2, loByte w)]) := by
  obtain rfl := h.cpu
  exact (((h.memWrite _ _).memWrite _ _).setSp _).hideBus _ _

theorem Ran.pop_fst (h : Ran s t bus pg c []) :
    (pop t).1 = mkWord (readThrough pg s.rom s.ram (c.sp + 1)) (readThrough pg s.rom s.ram c.sp) := by
  obtain rfl := h.cpu
  exact h.memReadWord_fst t.cpu.sp

theorem Ran.pop (h : Ran s t bus pg c ws) :
    Ran s (pop t).2 (Machine.skipRead (c.sp + 1) (Machine.skipRead c.sp bus)) pg { c with sp := c.sp + 2 } ws := by
  obtain rfl := h.cpu
  exact (h.memReadWord t.cpu.sp).setSp _

/-! ## What a statement says of the outcome -/

theorem Ran.regsOnly (h : Ran s t bus pg c []) : RegsOnly s t bus pg c :=
  ⟨h.state, fun q => by rw [h.state]; rfl, fun q => by rw [h.state]⟩

theorem Ran.storesOnly (h : Ran s t bus pg c ws) : StoresOnly s t bus pg c ws := by
  have ram : t.ram = storeAll pg s.ram ws := by rw [h.state]
  refine ⟨h.state, fun q => by rw [h.state], fun hwf q out => ?_, fun hwf w q last place => ?_⟩
  · rw [ram]
    exact memGet_storeAll_of_ne pg ws s.ram hwf q out
  · rw [ram]
    exact memGet_storeAll_last pg ws s.ram hwf w q last place

end

end Sys2Proof.Machine
end

section
/-! The loads (40 R230 to R233, R238 to R240, R248, R249, R254 to R258) and the stores (40 R234 to R237, R241 to
R243, R259 to R261). -/

namespace Sys2Proof.Machine

theorem setHl_mkWord (c : Cpu) (hi lo : Byte) : c.setHl (mkWord hi lo) = { c with h := hi, l := lo } := by
  simp [Cpu.setHl]

/-- Settles O28: each load is its fetches and reads, one change of the registers, and PC moved. -/
theorem loads : Obligations.Loads := by
  refine ⟨fun s => ⟨fun r r2 => ?ldRS, fun r n => ?ldRN, fun hu i r r2 => ?ldHalves, fun hu i h n => ?ldIhlN⟩,
    fun s => ⟨fun r => ?ldRMHl, fun i r d => ?ldRMIx, ?ldAMBc, ?ldAMDe, fun nn => ?ldAMNn, fun rr nn => ?ldRrNn,
      fun i nn => ?ldIiNn, fun nn => ?ldHlMNn, fun rr nn => ?ldRrMNn, fun i nn => ?ldIiMNn⟩⟩
  case ldRS => exact ⟨_, rfl, ((ran_fetchOp s).mapCpu_skip (keepsPc_copyReg r r2) 1).regsOnly⟩
  case ldRN => exact ⟨_, rfl, ((ran_fetchOpN s).mapCpu_skip (keepsPc_setReg r n) 2).regsOnly⟩
  case ldHalves =>
    exact ⟨_, undocumented_of_execute hu _,
      ((ran_fetchOp2 s).mapCpu_skip (keepsPc_copyHalfReg i r r2) 2).regsOnly⟩
  case ldIhlN =>
    exact ⟨_, undocumented_of_execute hu _, ((ran_fetchOp2N s).mapCpu_skip (keepsPc_setHalf i h n) 3).regsOnly⟩
  case ldRMHl =>
    refine ⟨_, rfl, ?_⟩
    rw [srcMHl_fst]
    exact (((ran_fetchOp s).skipRead s.cpu.hl).mapCpu_skip (keepsPc_setReg r _) 1).regsOnly
  case ldRMIx =>
    refine ⟨_, rfl, ?_⟩
    rw [srcMIx_fst]
    exact (((ran_fetchIdx s).skipRead (s.cpu.ea i d)).mapCpu_skip (keepsPc_setReg r _) 3).regsOnly
  case ldAMBc => exact ⟨_, rfl, (((ran_fetchOp s).loadA s.cpu.bc).skip 1).regsOnly⟩
  case ldAMDe => exact ⟨_, rfl, (((ran_fetchOp s).loadA s.cpu.de).skip 1).regsOnly⟩
  case ldAMNn => exact ⟨_, rfl, (((ran_fetchOpNn s).loadA nn).skip 3).regsOnly⟩
  case ldRrNn => exact ⟨_, rfl, ((ran_fetchOpNn s).mapCpu_skip (keepsPc_setPair rr nn) 3).regsOnly⟩
  case ldIiNn => exact ⟨_, rfl, ((ran_fetchOp2Nn s).mapCpu_skip (keepsPc_setIdx i nn) 4).regsOnly⟩
  case ldHlMNn =>
    refine ⟨_, rfl, ?_⟩
    rw [(ran_fetchOpNn s).memReadWord_fst]
    exact setHl_mkWord _ _ _ ▸
      (((ran_fetchOpNn s).memReadWord nn).mapCpu_skip (keepsPc_setPair .hl (wordAfter1 s nn)) 3).regsOnly
  case ldRrMNn =>
    refine ⟨_, rfl, ?_⟩
    rw [(ran_fetchOp2Nn s).memReadWord_fst]
    exact (((ran_fetchOp2Nn s).memReadWord nn).mapCpu_skip (keepsPc_setPair rr _) 4).regsOnly
  case ldIiMNn =>
    refine ⟨_, rfl, ?_⟩
    rw [(ran_fetchOp2Nn s).memReadWord_fst]
    exact (((ran_fetchOp2Nn s).memReadWord nn).mapCpu_skip (keepsPc_setIdx i _) 4).regsOnly

/-- Settles O29: each store is its fetches, its cycles of writing, and PC moved. -/
theorem memoryStores : Obligations.MemoryStores := fun s =>
  ⟨fun _ => ⟨_, rfl, (((ran_fetchOp s).memWrite _ _).skip 1).storesOnly⟩,
    fun _ => ⟨_, rfl, (((ran_fetchOpN s).memWrite _ _).skip 2).storesOnly⟩,
    fun _ _ _ => ⟨_, rfl, (((ran_fetchIdx s).memWrite _ _).skip 3).storesOnly⟩,
    fun _ _ _ => ⟨_, rfl, (((ran_fetchIdxN s).memWrite _ _).skip 4).storesOnly⟩,
    ⟨_, rfl, (((ran_fetchOp s).memWrite _ _).skip 1).storesOnly⟩,
    ⟨_, rfl, (((ran_fetchOp s).memWrite _ _).skip 1).storesOnly⟩,
    fun _ => ⟨_, rfl, (((ran_fetchOpNn s).memWrite _ _).skip 3).storesOnly⟩,
    fun _ => ⟨_, rfl, (((ran_fetchOpNn s).memWriteWord _ _).skip 3).storesOnly⟩,
    fun _ _ => ⟨_, rfl, (((ran_fetchOp2Nn s).memWriteWord _ _).skip 4).storesOnly⟩,
    fun _ _ => ⟨_, rfl, (((ran_fetchOp2Nn s).memWriteWord _ _).skip 4).storesOnly⟩⟩

end Sys2Proof.Machine
end

section
/-! The stack, the exchanges and the loads of SP (40 R250 to R253, R262 to R268). -/

namespace Sys2Proof.Machine

section
variable {s b : State} {pg : Paging} {c : Cpu}

theorem Ran.exchangeTop_fst (h : Ran s b b pg c []) (w : Word) : (exchangeTop w b).1
    = mkWord (readThrough pg s.rom s.ram (c.sp + 1)) (readThrough pg s.rom s.ram c.sp) := by
  obtain rfl := h.cpu
  exact h.memReadWord_fst b.cpu.sp

/-- The old top is read, then the word stored over it, its high byte first. -/
theorem Ran.exchangeTop (h : Ran s b b pg c []) (w : Word) :
    Ran s (exchangeTop w b).2 (exchangeTop w b).2 pg c [(c.sp + 1, hiByte w), (c.sp, loByte w)] := by
  obtain rfl := h.cpu
  exact ((((h.memReadWord _).internal _ 1).memWrite _ _).memWrite _ _).internal _ 2

end

/-- Settles O31: each form is its fetches, the stack's cycles, one change of the registers, and PC moved. -/
theorem stackAndExchanges : Obligations.StackAndExchanges := by
  refine ⟨fun s => ⟨fun qq => ?pushQq, fun i => ?pushIi, fun qq => ?popQq, fun i => ?popIi, ?exMSpHl,
      fun i => ?exMSpIi⟩,
    fun s => ⟨?exAfAf, ?exx, ?exDeHl, ?ldSpHl, fun i => ?ldSpIi⟩⟩
  case pushQq => exact ⟨_, rfl, ((((ran_fetchOp s).internalIr 1).push _).skip 1).storesOnly⟩
  case pushIi => exact ⟨_, rfl, ((((ran_fetchOp2 s).internalIr 1).push _).skip 2).storesOnly⟩
  case popQq =>
    refine ⟨_, rfl, ?_⟩
    rw [(ran_fetchOp s).pop_fst]
    exact ((ran_fetchOp s).pop.mapCpu_skip (keepsPc_setStackPair qq _) 1).regsOnly
  case popIi =>
    refine ⟨_, rfl, ?_⟩
    rw [(ran_fetchOp2 s).pop_fst]
    exact ((ran_fetchOp2 s).pop.mapCpu_skip (keepsPc_setIdx i _) 2).regsOnly
  case exMSpHl =>
    have ran := (ran_fetchOp s).exchangeTop s.cpu.hl
    rw [Cpu.hl, hiByte_mkWord, loByte_mkWord] at ran
    refine ⟨_, rfl, ?_⟩
    rw [(ran_fetchOp s).exchangeTop_fst]
    exact (ran.mapCpu_skip (keepsPc_setPair .hl _) 1).storesOnly
  case exMSpIi =>
    refine ⟨_, rfl, ?_⟩
    rw [(ran_fetchOp2 s).exchangeTop_fst]
    exact (((ran_fetchOp2 s).exchangeTop _).mapCpu_skip (keepsPc_setIdx i _) 2).storesOnly
  case exAfAf => exact ⟨_, rfl, (((ran_fetchOp s).mapCpu Cpu.swapAf).skip 1).regsOnly⟩
  case exx => exact ⟨_, rfl, (((ran_fetchOp s).mapCpu Cpu.swapShadow).skip 1).regsOnly⟩
  case exDeHl => exact ⟨_, rfl, (((ran_fetchOp s).mapCpu Cpu.swapDeHl).skip 1).regsOnly⟩
  case ldSpHl => exact ⟨_, rfl, ((((ran_fetchOp s).internalIr 2).setSp _).skip 1).regsOnly⟩
  case ldSpIi => exact ⟨_, rfl, ((((ran_fetchOp2 s).internalIr 2).setSp _).skip 2).regsOnly⟩

end Sys2Proof.Machine
end

section
/-! The loads of and from I and R, and the forecast of an interrupt that decides their PV (40 R244 to R247; 44 R463,
R470, R480, R481). -/

namespace Sys2Proof.Machine

/-! ## The forecast is what comes -/

theorem accepts_iff {s : State} (ht : s.clock.tstates < (archConfig s.cfg).tFrame) :
    s.intGate.accepts s.cfg = true ↔ s.cpu.nmiPending = false ∧ acceptsInt s = true := by
  simp only [IntGate.accepts, IntGate.inFrame, State.intGate, acceptsInt, ht, decide_true, Bool.and_eq_true,
    Bool.not_eq_true', true_and, and_assoc]

theorem intAtBoundary_of_boundary {s : State} (hb : s.frameBoundary = true) :
    intAtBoundary s = acceptsAfter s.cfg s.intGate s.hostQueue := if_pos hb

/-- With no action due, a machine whose frame is not over stands at the boundary itself. -/
theorem intAtBoundary_of_no_action {s : State} (h : ¬ (s.frameBoundary = true ∧ s.hostQueue ≠ []))
    (ht : s.clock.tstates < (archConfig s.cfg).tFrame) : intAtBoundary s = s.intGate.accepts s.cfg := by
  cases hb : s.frameBoundary with
  | false => exact intAtBoundary_inFrame hb ht
  | true =>
    have hq : s.hostQueue = [] := by simpa [hb] using h
    simp [intAtBoundary_of_boundary hb, hq, acceptsAfter, State.intGate, Nat.mod_eq_of_lt ht]

/-- `FrameStep` begins the frame that the forecast begins. -/
theorem intAtBoundary_frameStep {s : State} {rest : List HostAction} (hb : s.frameBoundary = true)
    (hq : s.hostQueue = .frameStep :: rest) :
    intAtBoundary (applyAction .frameStep { s with hostQueue := rest }) = intAtBoundary s := by
  rw [intAtBoundary_of_boundary hb, hq]
  rfl

/-- Any other host action changes the gate as the forecast does, and leaves the machine at the frame boundary. -/
theorem intAtBoundary_applyAction {s : State} {a : HostAction} (ha : a ≠ .frameStep)
    (hb : s.frameBoundary = true) : intAtBoundary (applyAction a s)
      = acceptsAfter s.cfg (s.intGate.afterAction s.cfg a) s.hostQueue := by
  unfold applyAction IntGate.afterAction
  cases a with
  | frameStep => exact absurd rfl ha
  | setKeys _ | pulseNmi | tapeInsert _ | tapePlay | tapeStop | reset => exact intAtBoundary_of_boundary hb
  | setKempston _ | insertDisk _ _ _ | ejectDisk _ | loadSnapshot _ =>
    dsimp only
    split <;> exact intAtBoundary_of_boundary hb

/-- The end of a frame takes from the frame time what the forecast takes. -/
theorem intAtBoundary_endOfFrame {s : State} (h : ¬ (s.frameBoundary = true ∧ s.hostQueue ≠ []))
    (ht : (archConfig s.cfg).tFrame ≤ s.clock.tstates) : intAtBoundary (endOfFrame s) = intAtBoundary s := by
  have ended : intAtBoundary (endOfFrame s) = acceptsAfter s.cfg
      { s.intGate with tstates := s.clock.tstates - (archConfig s.cfg).tFrame } s.hostQueue := rfl
  rw [ended]
  cases hb : s.frameBoundary with
  | false => simp [intAtBoundary, hb, IntGate.inFrame, State.intGate, Nat.not_lt.mpr ht]
  | true =>
    have hq : s.hostQueue = [] := by simpa [hb] using h
    simp [intAtBoundary_of_boundary hb, hq, acceptsAfter, State.intGate, Nat.mod_eq_sub_mod ht]

/-- A step that is no turn of the frame loop leaves the forecast as it was. -/
theorem step_keeps_forecast {s : State} (hcfg : cfgAdmitted s.cfg = true)
    (h : (s.frameBoundary = true ∧ s.hostQueue ≠ []) ∨ (archConfig s.cfg).tFrame ≤ s.clock.tstates) :
    ∃ t, step s = .next t ∧ intAtBoundary t = intAtBoundary s := by
  unfold step
  rw [hcfg, Bool.not_true, if_neg Bool.false_ne_true]
  split
  case h_1 a rest hb hq =>
    refine ⟨_, rfl, ?_⟩
    by_cases ha : a = .frameStep
    · subst ha
      exact intAtBoundary_frameStep hb hq
    · rw [intAtBoundary_of_boundary hb, hq, acceptsAfter_action _ _ ha]
      exact intAtBoundary_applyAction (s := { s with hostQueue := rest }) ha hb
  case h_2 noAction =>
    have idle : ¬ (s.frameBoundary = true ∧ s.hostQueue ≠ []) := by
      rintro ⟨hb, hq⟩
      obtain ⟨a, rest, hq⟩ := List.exists_cons_of_ne_nil hq
      exact noAction a rest hb hq
    have ht := h.resolve_left idle
    rw [if_neg (Nat.not_lt.mpr ht)]
    exact ⟨_, rfl, intAtBoundary_endOfFrame idle ht⟩

/-! ## The loads -/

section
variable {s t bus : State} {pg : Paging} {c : Cpu} {ws : List (Word × Byte)}

/-- Where no interrupt is foreseen PV is IFF2. -/
theorem Ran.loadAIr_of_not (h : Ran s t bus pg c ws) (none : ¬ intAtBoundary t = true) (v : Byte) :
    Ran s (loadAIr v t) bus pg { c with a := v, f := loadIrF v c.f c.iff2 } ws := by
  obtain rfl := h.cpu
  rw [Machine.loadAIr, if_neg none]
  exact h.setAF _ _

/-- Where one is foreseen PV is drawn. -/
theorem Ran.loadAIr_of_int (h : Ran s t bus pg c ws) (int : intAtBoundary t = true) (v : Byte) :
    Ran { s with drawCount := s.drawCount + 1 } (loadAIr v t) bus pg
      { c with a := v, f := loadIrF v c.f (Config.drawBool s.drawCount) } ws := by
  rw [Machine.loadAIr, if_pos int, ← h.drawBool_fst]
  obtain rfl := h.cpu
  exact h.drawBool.setAF _ _

end

theorem exec_ldAI (s : State) : exec .ldAI s = .next ((loadAIr s.cpu.i (internalIr 1 (fetchOp2 s))).skip 2) := by
  have i : (internalIr 1 (fetchOp2 s)).cpu.i = s.cpu.i := by simp
  rw [← i]
  rfl

/-- R is read after the instruction's own two fetches. -/
theorem exec_ldAR (s : State) :
    exec .ldAR s = .next ((loadAIr (nextR (nextR s.cpu.r)) (internalIr 1 (fetchOp2 s))).skip 2) := by
  have r : (internalIr 1 (fetchOp2 s)).cpu.r = nextR (nextR s.cpu.r) := by simp
  rw [← r]
  rfl

/-- Settles O30: the forecast holds at the boundary and over every step that reaches none; the loads are their fetches,
an internal cycle, one change of the registers, and PC moved. -/
theorem loadsOfIAndR : Obligations.LoadsOfIAndR := by
  refine ⟨fun s hcfg => ⟨fun noAction ht => ?_, step_keeps_forecast hcfg⟩, fun s => ?_⟩
  · rw [intAtBoundary_of_no_action noAction ht]
    exact accepts_iff ht
  · have bus := (ran_fetchOp2 s).internalIr 1
    refine ⟨fun i v hi => ?_, ⟨_, rfl, ((bus.mapCpu _).skip 2).regsOnly⟩, ⟨_, rfl, ((bus.mapCpu _).skip 2).regsOnly⟩⟩
    have next : exec i s = .next ((loadAIr v (internalIr 1 (fetchOp2 s))).skip 2) := by
      obtain ⟨rfl, rfl⟩ | ⟨rfl, rfl⟩ := hi
      · exact exec_ldAI s
      · exact exec_ldAR s
    refine ⟨_, next, ?_⟩
    simp only [intAtBoundary_skip, intAtBoundary_loadAIr]
    split
    case isTrue int => exact ((bus.loadAIr_of_int int v).skip 2).regsOnly
    case isFalse none => exact ((bus.loadAIr_of_not none v).skip 2).regsOnly

end Sys2Proof.Machine
end

section
/-! One iteration of a block copy and of a block search (40 R269 to R277). -/

namespace Sys2Proof.Machine

theorem countPv_eq (t : State) : countPv t = decide (t.cpu.bc ≠ 0) := by
  rw [countPv, Bool.eq_iff_iff, bne_iff_ne, decide_eq_true_iff]

theorem searchK_eq (a v : Byte) : searchK a v = a - v - if searchH a v then 1 else 0 := by
  rw [searchK]
  cases searchH a v <;> rfl

/-! ## How an iteration ends -/

/-- An instruction with two ends: each end meets its branch of the statement. -/
theorem completes_ite {i : Instr} {s t u : State} {more : Bool} {p : Prop} [Decidable p] {P Q : State → Prop}
    (hexec : exec i s = .next (if more then t else u)) (hp : more = true ↔ p) (ht : P t) (hu : Q u) :
    Completes i s fun v => if p then P v else Q v := by
  refine ⟨_, hexec, ?_⟩
  dsimp only
  by_cases taken : p
  · rw [if_pos taken, if_pos (hp.mpr taken)]
    exact ht
  · rw [if_neg taken, if_neg (mt hp.mp taken)]
    exact hu

section
variable {s t bus : State} {pg : Paging} {c : Cpu} {ws : List (Word × Byte)} {w : Word}
  (h : Ran s t bus pg c ws) (hbc : c.bc = w)
include h hbc

theorem Ran.copyEnd (v : Byte) : Ran s (copyEnd v t) bus pg
    { c with pc := c.pc + 2,
             f := copyF c.f (decide (w ≠ 0)) ((copyK v c.a).getLsbD 1) ((copyK v c.a).getLsbD 3) } ws := by
  obtain rfl := hbc
  obtain rfl := h.cpu
  rw [← countPv_eq]
  exact (h.setF _).skip 2

theorem Ran.copyRepeat (a : Word) :
    Ran { s with drawCount := s.drawCount + 2 } (copyRepeat a t) (Machine.internal a 5 bus) pg
      { c with f := copyF c.f (decide (w ≠ 0)) (Config.drawBool s.drawCount)
                (Config.drawBool (s.drawCount + 1)) } ws := by
  obtain rfl := hbc
  obtain rfl := h.cpu
  rw [← countPv_eq]
  exact (h.setF_drawTwo fun y x => copyF t.cpu.f (countPv t) y x).internal a 5

theorem Ran.searchEnd (v : Byte) :
    let k := c.a - v - if searchH c.a v then 1 else 0
    Ran s (searchEnd v t) bus pg
      { c with pc := c.pc + 2,
               f := searchF c.a v c.f (decide (w ≠ 0)) (k.getLsbD 1) (k.getLsbD 3) } ws := by
  obtain rfl := hbc
  obtain rfl := h.cpu
  rw [← countPv_eq, ← searchK_eq]
  exact (h.setF _).skip 2

theorem Ran.searchRepeat (a : Word) (v : Byte) :
    Ran { s with drawCount := s.drawCount + 2 } (searchRepeat a v t) (Machine.internal a 5 bus) pg
      { c with f := searchF c.a v c.f (decide (w ≠ 0)) (Config.drawBool s.drawCount)
                (Config.drawBool (s.drawCount + 1)) } ws := by
  obtain rfl := hbc
  obtain rfl := h.cpu
  rw [← countPv_eq]
  exact (h.setF_drawTwo fun y x => searchF t.cpu.a v t.cpu.f (countPv t) y x).internal a 5

end

/-! ## What an iteration does before its end -/

section
variable (s : State) (d : Direction)

theorem copyStep_fst : (copyStep d s).1 = readAfter2 s s.cpu.hl := (ran_fetchOp2 s).memRead_fst s.cpu.hl

/-- The byte copied, the pointers moved and BC counted down. -/
theorem ran_copyStep : Ran s (copyStep d s).2
    (internal s.cpu.de 2 (memWrite s.cpu.de (readAfter2 s s.cpu.hl) (skipRead s.cpu.hl (fetchOp2 s))))
    (pagingAfter2 s)
    ((((ran2 s s.cpu.pc).setHl (s.cpu.hl + d.delta)).setDe (s.cpu.de + d.delta)).setBc (s.cpu.bc - 1))
    [(s.cpu.de, readAfter2 s s.cpu.hl)] := by
  rw [← copyStep_fst s d]
  exact ((((ran_fetchOp2 s).skipRead _).memWrite _ _).internal _ 2).mapCpu fun c =>
    ((c.setHl (c.hl + d.delta)).setDe (c.de + d.delta)).setBc (c.bc - 1)

theorem searchStep_fst : (searchStep d s).1 = readAfter2 s s.cpu.hl := (ran_fetchOp2 s).memRead_fst s.cpu.hl

/-- HL moved and BC counted down. -/
theorem ran_searchStep : Ran s (searchStep d s).2 (internal s.cpu.hl 5 (skipRead s.cpu.hl (fetchOp2 s)))
    (pagingAfter2 s) (((ran2 s s.cpu.pc).setHl (s.cpu.hl + d.delta)).setBc (s.cpu.bc - 1)) [] :=
  (((ran_fetchOp2 s).skipRead _).internal _ 5).mapCpu fun c => (c.setHl (c.hl + d.delta)).setBc (c.bc - 1)

end

/-! ## The iteration -/

section
variable {s : State} {d : Direction} {i : Instr} {repeats : Bool}

theorem copyClaim_of_exec (hexec : exec i s = .next (if repeats && countPv (copyStep d s).2 then
      copyRepeat s.cpu.de (copyStep d s).2 else copyEnd (copyStep d s).1 (copyStep d s).2)) :
    copyClaim d.delta repeats i s := by
  have ran := ran_copyStep s d
  have again : (repeats && countPv (copyStep d s).2) = true ↔ repeats = true ∧ s.cpu.bc - 1 ≠ 0 := by
    rw [countPv_eq, ran.cpu, bc_setBc, Bool.and_eq_true, decide_eq_true_iff]
  rw [copyStep_fst] at hexec
  exact completes_ite hexec again (ran.copyRepeat (bc_setBc _ _) s.cpu.de).storesOnly
    (ran.copyEnd (bc_setBc _ _) _).storesOnly

theorem searchClaim_of_exec (hexec : exec i s = .next
      (if repeats && (countPv (searchStep d s).2 && (searchStep d s).2.cpu.a - (searchStep d s).1 != 0) then
        searchRepeat s.cpu.hl (searchStep d s).1 (searchStep d s).2
      else searchEnd (searchStep d s).1 (searchStep d s).2)) :
    searchClaim d.delta repeats i s := by
  have ran := ran_searchStep s d
  have accumulator : (searchStep d s).2.cpu.a = s.cpu.a := by
    rw [ran.cpu]
    rfl
  rw [searchStep_fst, accumulator] at hexec
  have again : (repeats && (countPv (searchStep d s).2 && s.cpu.a - readAfter2 s s.cpu.hl != 0)) = true
      ↔ repeats = true ∧ s.cpu.bc - 1 ≠ 0 ∧ s.cpu.a - readAfter2 s s.cpu.hl ≠ 0 := by
    rw [countPv_eq, ran.cpu, bc_setBc, Bool.and_eq_true, Bool.and_eq_true, decide_eq_true_iff, bne_iff_ne]
  exact completes_ite hexec again (ran.searchRepeat (bc_setBc _ _) s.cpu.hl _).regsOnly
    (ran.searchEnd (bc_setBc _ _) _).regsOnly

end

/-- Settles O32: each form is an iteration that ends by its own count, the byte found, and whether it repeats. -/
theorem blockTransferAndSearch : Obligations.BlockTransferAndSearch :=
  ⟨fun _ => ⟨copyClaim_of_exec (d := .up) rfl, copyClaim_of_exec (d := .up) rfl,
      copyClaim_of_exec (d := .down) rfl, copyClaim_of_exec (d := .down) rfl⟩,
    fun _ => ⟨searchClaim_of_exec (d := .up) rfl, searchClaim_of_exec (d := .up) rfl,
      searchClaim_of_exec (d := .down) rfl, searchClaim_of_exec (d := .down) rfl⟩⟩

end Sys2Proof.Machine
end

section
/-! One iteration of a block input and of a block output (40 R269; 43 R433 to R436, R440 to R443). -/

namespace Sys2Proof.Machine

/-! ## The rules of the I/O cycles -/

theorem ioRead_frame (p : Word) (s : State) : (ioRead p s).2
    = { s with clock := (ioRead p s).2.clock, framebuffer := (ioRead p s).2.framebuffer,
               disk := (ioRead p s).2.disk, tape := (ioRead p s).2.tape } := by
  have port := portRead_frame p (chargeIo p s)
  rw [ioRead]
  dsimp only
  generalize (portRead p (chargeIo p s)).2 = r at port ⊢
  rw [chargeIo_timeOnly p s] at port
  rw [port]
  rfl

theorem ioWrite_frame (p : Word) (v : Byte) (s : State) : ioWrite p v s
    = { s with clock := (ioWrite p v s).clock, framebuffer := (ioWrite p v s).framebuffer,
               ula := (ioWrite p v s).ula, paging := (ioWrite p v s).paging, ay := (ioWrite p v s).ay,
               disk := (ioWrite p v s).disk } := by
  have port := portWrite_frame p v (chargeIo p s)
  rw [ioWrite]
  generalize portWrite p v (chargeIo p s) = r at port ⊢
  rw [chargeIo_timeOnly p s] at port
  rw [port]
  rfl

section
variable {s t bus u : State} {pg : Paging} {c : Cpu} {ws : List (Word × Byte)}

/-- A port read moves time, the disk side and the tape. -/
theorem Ran.ioRead (h : Ran s t bus pg c ws) (p : Word) :
    Ran { s with disk := (ioRead p bus).2.disk, tape := (ioRead p bus).2.tape } (ioRead p t).2
      (ioRead p bus).2 pg c ws := by
  have moved : (Machine.ioRead p t).2 = (Machine.ioRead p bus).2.hide c s.drawCount := by
    rw [h.hidden, ioRead_hide]
  refine ⟨?_, moved⟩
  rw [ioRead_frame, moved, h.state]
  rfl

/-- A port write moves time, the ULA, the page table, the AY and the disk side. -/
theorem Ran.ioWrite (h : Ran s t bus pg c []) (p : Word) (v : Byte) :
    Ran { s with ula := (ioWrite p v bus).ula, ay := (ioWrite p v bus).ay, disk := (ioWrite p v bus).disk }
      (ioWrite p v t) (ioWrite p v bus) (ioWrite p v bus).paging c [] := by
  have moved : Machine.ioWrite p v t = (Machine.ioWrite p v bus).hide c s.drawCount := by
    rw [h.hidden, ioWrite_hide]
  refine ⟨?_, moved⟩
  rw [ioWrite_frame, moved, h.state]
  rfl

theorem Ran.readsPort (h : Ran { s with disk := u.disk, tape := u.tape } t bus pg c ws) :
    ReadsPort s t u bus pg c ws := by
  obtain ⟨state, rom, ram, -⟩ := h.storesOnly
  exact ⟨state, rom, ram⟩

theorem Ran.writesPort (h : Ran { s with ula := u.ula, ay := u.ay, disk := u.disk } t bus u.paging c []) :
    WritesPort s t u bus c := by
  obtain ⟨state, ram, rom⟩ := h.regsOnly
  exact ⟨state, ram, rom⟩

/-! ## How an iteration ends -/

theorem Ran.blockIoEnd (h : Ran s t bus pg c ws) (v : Byte) (k : Nat) : Ran s (blockIoEnd v k t) bus pg
    { c with pc := c.pc + 2, f := blockIoFlags c.b v k } ws := by
  obtain rfl := h.cpu
  exact (h.setF _).skip 2

theorem Ran.blockIoRepeat (h : Ran s t bus pg c ws) (a : Word) (v : Byte) (k : Nat) :
    Ran { s with drawCount := s.drawCount + 4 } (blockIoRepeat a v k t) (Machine.internal a 5 bus) pg
      { c with f := blockIoDrawn c.b v k s.drawCount } ws := by
  have flags : blockIoDrawn t.cpu.b v k t.drawCount = blockIoDrawn c.b v k s.drawCount := by
    rw [h.cpu, h.drawCount]
  rw [← flags]
  obtain rfl := h.cpu
  exact (h.drawBool.drawBool.drawBool.drawBool.setF _).internal a 5

end

/-! ## What an iteration does before its end -/

section
variable (s : State) (d : Direction)

/-- The port read with B as it was, the byte stored, HL moved and B counted down. -/
theorem ran_inStep :
    let v := ioRead s.cpu.bc (internalIr 1 (fetchOp2 s))
    Ran { s with disk := v.2.disk, tape := v.2.tape } (inStep d s).2 (memWrite s.cpu.hl v.1 v.2) (pagingAfter2 s)
      { (ran2 s s.cpu.pc).setHl (s.cpu.hl + d.delta) with b := s.cpu.b - 1 } [(s.cpu.hl, v.1)] :=
  ((((ran_fetchOp2 s).internalIr 1).ioRead _).memWrite _ _).mapCpu fun c =>
    { c.setHl (c.hl + d.delta) with b := c.b - 1 }

theorem outStep_fst : (outStep d s).1 = readAfter2 s s.cpu.hl :=
  ((ran_fetchOp2 s).internalIr 1).memRead_fst s.cpu.hl

/-- B counted down, then the port written, and HL moved. -/
theorem ran_outStep :
    let u := ioWrite (mkWord (s.cpu.b - 1) s.cpu.c) (readAfter2 s s.cpu.hl)
      (skipRead s.cpu.hl (internalIr 1 (fetchOp2 s)))
    Ran { s with ula := u.ula, ay := u.ay, disk := u.disk } (outStep d s).2 u u.paging
      { (ran2 s s.cpu.pc).setHl (s.cpu.hl + d.delta) with b := s.cpu.b - 1 } [] := by
  have counted := (((ran_fetchOp2 s).internalIr 1).skipRead s.cpu.hl).mapCpu fun c => { c with b := c.b - 1 }
  have port : mkWord (s.cpu.b - 1) s.cpu.c = _ := (congrArg Cpu.bc counted.cpu).symm
  rw [← outStep_fst s d, port]
  exact (counted.ioWrite _ _).mapCpu fun c => c.setHl (c.hl + d.delta)

theorem inIteration_eq : inIteration d s = if true && (inStep d s).2.cpu.b != 0 then
    blockIoRepeat s.cpu.hl (inStep d s).1 (inK d (inStep d s).1 (inStep d s).2) (inStep d s).2
    else blockIoEnd (inStep d s).1 (inK d (inStep d s).1 (inStep d s).2) (inStep d s).2 := by
  by_cases hb : (inStep d s).2.cpu.b = 0 <;> simp [inIteration, hb]

theorem outIteration_eq : outIteration d s = if true && (outStep d s).2.cpu.b != 0 then
    blockIoRepeat (outStep d s).2.cpu.bc (outStep d s).1 (outK (outStep d s).1 (outStep d s).2) (outStep d s).2
    else blockIoEnd (outStep d s).1 (outK (outStep d s).1 (outStep d s).2) (outStep d s).2 := by
  by_cases hb : (outStep d s).2.cpu.b = 0 <;> simp [outIteration, hb]

end

/-! ## The iteration -/

section
variable {s : State} {d : Direction} {i : Instr} {repeats : Bool}

theorem blockInClaim_of_exec (hexec : exec i s = .next (if repeats && (inStep d s).2.cpu.b != 0 then
      blockIoRepeat s.cpu.hl (inStep d s).1 (inK d (inStep d s).1 (inStep d s).2) (inStep d s).2
    else blockIoEnd (inStep d s).1 (inK d (inStep d s).1 (inStep d s).2) (inStep d s).2)) :
    blockInClaim d.delta d.deltaByte repeats i s := by
  have ran := ran_inStep s d
  have again : (repeats && (inStep d s).2.cpu.b != 0) = true ↔ repeats = true ∧ s.cpu.b - 1 ≠ 0 := by
    rw [ran.cpu, Bool.and_eq_true, bne_iff_ne]
  have sum : inK d (inStep d s).1 (inStep d s).2 = (inStep d s).1.toNat + (s.cpu.c + d.deltaByte).toNat := by
    rw [inK, ran.cpu]
    rfl
  rw [sum] at hexec
  exact completes_ite hexec again (ran.blockIoRepeat s.cpu.hl _ _).readsPort (ran.blockIoEnd _ _).readsPort

theorem blockOutClaim_of_exec (hexec : exec i s = .next (if repeats && (outStep d s).2.cpu.b != 0 then
      blockIoRepeat (outStep d s).2.cpu.bc (outStep d s).1 (outK (outStep d s).1 (outStep d s).2) (outStep d s).2
    else blockIoEnd (outStep d s).1 (outK (outStep d s).1 (outStep d s).2) (outStep d s).2)) :
    blockOutClaim d.delta repeats i s := by
  have ran := ran_outStep s d
  have again : (repeats && (outStep d s).2.cpu.b != 0) = true ↔ repeats = true ∧ s.cpu.b - 1 ≠ 0 := by
    rw [ran.cpu, Bool.and_eq_true, bne_iff_ne]
  have port : (outStep d s).2.cpu.bc = mkWord (s.cpu.b - 1) s.cpu.c := by
    rw [ran.cpu]
    rfl
  have sum : outK (outStep d s).1 (outStep d s).2
      = (outStep d s).1.toNat + (loByte (s.cpu.hl + d.delta)).toNat := by
    rw [outK, ran.cpu]
    rfl
  rw [sum, port, outStep_fst] at hexec
  exact completes_ite hexec again (ran.blockIoRepeat _ _ _).writesPort (ran.blockIoEnd _ _).writesPort

end

/-- Settles O45: each form is an iteration that ends by the new B and whether it repeats. -/
theorem blockInputAndOutput : Obligations.BlockInputAndOutput := fun s =>
  ⟨blockInClaim_of_exec (d := .up) rfl,
    blockInClaim_of_exec (d := .up) (congrArg Host.Outcome.next (inIteration_eq s .up)),
    blockInClaim_of_exec (d := .down) rfl,
    blockInClaim_of_exec (d := .down) (congrArg Host.Outcome.next (inIteration_eq s .down)),
    blockOutClaim_of_exec (d := .up) rfl,
    blockOutClaim_of_exec (d := .up) (congrArg Host.Outcome.next (outIteration_eq s .up)),
    blockOutClaim_of_exec (d := .down) rfl,
    blockOutClaim_of_exec (d := .down) (congrArg Host.Outcome.next (outIteration_eq s .down))⟩

end Sys2Proof.Machine
end

section
/-! The byte ALU in its five operand forms, INC and DEC of a byte, and the accumulator and flag operations (41
R301 to R320). -/

namespace Sys2Proof.Machine

/-! ## The ALU: A and F from A, the operand and C -/

theorem Ran.applyAlu {s t bus : State} {pg : Paging} {c : Cpu} {ws : List (Word × Byte)}
    (h : Ran s t bus pg c ws) (op : Alu) (v : Byte) : Ran s (applyAlu op v t) bus pg
      { c with a := (op c.a v (flagC c.f)).1, f := (op c.a v (flagC c.f)).2 } ws := by
  obtain rfl := h.cpu
  exact h.setAF _ _

/-- Five instructions that are the five forms of one operation: in each the operand is fetched or read, the operation
applied, and PC moved. -/
theorem aluClaim_of_exec {op : Alu} {fr : Reg8 → Instr} {fm : Instr} {fn : Byte → Instr} {fh : Idx → Half → Instr}
    {fx : Idx → Byte → Instr} {s : State} (onReg : ∀ r, exec (fr r) s = .next (aluOnReg op r s))
    (onMHl : exec fm s = .next (aluOnMHl op s)) (onImm : ∀ n, exec (fn n) s = .next (aluOnImm op n s))
    (onHalf : ∀ i h, exec (fh i h) s = undocumented s (aluOnHalf op i h s))
    (onMIx : ∀ i d, exec (fx i d) s = .next (aluOnMIx op i d s)) : aluClaim op fr fm fn fh fx s := by
  refine ⟨fun r => ?reg, ?mHl, fun n => ?imm, fun hu i h => ?half, fun i d => ?mIx⟩
  case reg => exact ⟨_, onReg r, (((ran_fetchOp s).applyAlu op _).skip 1).regsOnly⟩
  case mHl =>
    rw [aluOnMHl, srcMHl_fst] at onMHl
    exact ⟨_, onMHl, ((((ran_fetchOp s).skipRead _).applyAlu op _).skip 1).regsOnly⟩
  case imm => exact ⟨_, onImm n, (((ran_fetchOpN s).applyAlu op n).skip 2).regsOnly⟩
  case half =>
    exact ⟨_, (onHalf i h).trans (undocumented_of_execute hu _),
      (((ran_fetchOp2 s).applyAlu op _).skip 2).regsOnly⟩
  case mIx =>
    have hexec := onMIx i d
    rw [aluOnMIx, srcMIx_fst] at hexec
    exact ⟨_, hexec, ((((ran_fetchIdx s).skipRead _).applyAlu op _).skip 3).regsOnly⟩

/-- Settles O33: each instruction is the five forms of its operation. -/
theorem aluInstructions : Obligations.AluInstructions := fun _ =>
  ⟨aluClaim_of_exec (op := aluAdd) (fun _ => rfl) rfl (fun _ => rfl) (fun _ _ => rfl) fun _ _ => rfl,
    aluClaim_of_exec (op := aluAdc) (fun _ => rfl) rfl (fun _ => rfl) (fun _ _ => rfl) fun _ _ => rfl,
    aluClaim_of_exec (op := aluSub) (fun _ => rfl) rfl (fun _ => rfl) (fun _ _ => rfl) fun _ _ => rfl,
    aluClaim_of_exec (op := aluSbc) (fun _ => rfl) rfl (fun _ => rfl) (fun _ _ => rfl) fun _ _ => rfl,
    aluClaim_of_exec (op := aluAnd) (fun _ => rfl) rfl (fun _ => rfl) (fun _ _ => rfl) fun _ _ => rfl,
    aluClaim_of_exec (op := aluXor) (fun _ => rfl) rfl (fun _ => rfl) (fun _ _ => rfl) fun _ _ => rfl,
    aluClaim_of_exec (op := aluOr) (fun _ => rfl) rfl (fun _ => rfl) (fun _ _ => rfl) fun _ _ => rfl,
    aluClaim_of_exec (op := aluCp) (fun _ => rfl) rfl (fun _ => rfl) (fun _ _ => rfl) fun _ _ => rfl⟩

/-! ## A result with its F: INC and DEC of a byte -/

theorem KeepsPc.setF {f : Cpu → Cpu} (keeps : KeepsPc f) (v : Byte) : KeepsPc fun c => { f c with f := v } :=
  fun c k => congrArg (fun c : Cpu => { c with f := v }) (keeps c k)

section
variable {s t b bus : State} {pg : Paging} {c : Cpu} {ws : List (Word × Byte)}

/-- A result written to a register, its flags to F, and PC moved. -/
theorem Ran.mapCpu_setF_skip (h : Ran s t bus pg c ws) {f : Cpu → Cpu} (keeps : KeepsPc f) (v : Byte) (k : Nat) :
    Ran s (((t.mapCpu f).setF v).skip k) bus pg { f { c with pc := c.pc + BitVec.ofNat 16 k } with f := v } ws :=
  h.mapCpu_skip (keeps.setF v) k

/-- A byte of memory read, stepped, written back, and F set. -/
theorem Ran.stepMem (h : Ran s b b pg c []) (op : Step8) (a : Word) :
    let o := op (readThrough pg s.rom s.ram a) c.f
    Ran s (stepMem op a b) (Machine.memWrite a o.1 (Machine.internal a 1 (Machine.skipRead a b))) pg
      { c with f := o.2 } [(a, o.1)] := by
  obtain rfl := h.cpu
  rw [← h.memRead_fst a]
  exact (((h.skipRead a).internal a 1).memWrite a _).setF _

end

section
variable (s : State) (op : Step8)

theorem ran_stepReg (r : Reg8) :
    let o := op (s.cpu.reg r) s.cpu.f
    Ran s (stepReg op r s) (fetchOp s) (pagingAfter1 s) { (ran1 s (s.cpu.pc + 1)).setReg r o.1 with f := o.2 } [] :=
  (ran_fetchOp s).mapCpu_setF_skip (keepsPc_setReg r _) _ 1

theorem ran_stepHalf (i : Idx) (h : Half) :
    let o := op (s.cpu.half i h) s.cpu.f
    Ran s (stepHalf op i h s) (fetchOp2 s) (pagingAfter2 s)
      { (ran2 s (s.cpu.pc + 2)).setHalf i h o.1 with f := o.2 } [] :=
  (ran_fetchOp2 s).mapCpu_setF_skip (keepsPc_setHalf i h _) _ 2

end

/-- Settles O35: each form is its fetches, the byte read, `incByte` or `decByte` of it, the result and F written, and
PC moved. -/
theorem incrementsAndDecrements : Obligations.IncrementsAndDecrements := fun s =>
  ⟨fun r => ⟨_, rfl, (ran_stepReg s incByte r).regsOnly⟩,
    fun r => ⟨_, rfl, (ran_stepReg s decByte r).regsOnly⟩,
    fun hu =>
      ⟨fun i h => ⟨_, undocumented_of_execute hu _, (ran_stepHalf s incByte i h).regsOnly⟩,
        fun i h => ⟨_, undocumented_of_execute hu _, (ran_stepHalf s decByte i h).regsOnly⟩⟩,
    ⟨_, rfl, (((ran_fetchOp s).stepMem incByte s.cpu.hl).skip 1).storesOnly⟩,
    ⟨_, rfl, (((ran_fetchOp s).stepMem decByte s.cpu.hl).skip 1).storesOnly⟩,
    fun i d => ⟨_, rfl, (((ran_fetchIdx s).stepMem incByte (s.cpu.ea i d)).skip 3).storesOnly⟩,
    fun i d => ⟨_, rfl, (((ran_fetchIdx s).stepMem decByte (s.cpu.ea i d)).skip 3).storesOnly⟩⟩

/-! ## DAA, CPL, NEG, CCF and SCF -/

theorem daaCorrection_eq (a f : Byte) : daaCorrection a f
    = (if flagH f = true ∨ 9 < a.toNat % 16 then 0x06 else 0)
      + (if flagC f = true ∨ 0x99 < a.toNat then 0x60 else 0) := by
  simp only [daaCorrection, lowNibble, Bool.or_eq_true, decide_eq_true_eq, gt_iff_lt]

theorem cplF_not (a f : Byte) : cplF (~~~a) f
    = packF (flagS f) (flagZ f) (!a.getLsbD 5) true (!a.getLsbD 3) (flagPV f) true (flagC f) := by
  simp [cplF]

/-- The signed difference of 0 and a byte is out of range for -128 alone. -/
theorem zero_sub_overflow_iff (a : Byte) : (0 : Byte).toInt - a.toInt - bit01 false < -128
    ∨ 127 < (0 : Byte).toInt - a.toInt - bit01 false ↔ a = 0x80 := by
  have ha := a.isLt
  rw [← BitVec.toNat_inj]
  simp only [toInt_eq_ite, bit01, BitVec.ofNat_eq_ofNat, BitVec.reduceToNat]
  split <;> simp <;> omega

/-- NEG: a borrow out of a nibble or byte that is not 0 (41 R318). -/
theorem subByte_zero_left (a : Byte) : subByte 0 a false
    = (0 - a, szxyF (0 - a) (a.toNat % 16 != 0) (a == 0x80) true (a != 0)) := by
  have diff : (subByte 0 a false).1 = 0 - a := BitVec.sub_zero _
  refine Prod.ext diff ?_
  rw [subByte_flags, ← szxyF_eq, diff]
  congr 1
  case e_h =>
    rw [Bool.eq_iff_iff]
    simp [bit01, Nat.pos_iff_ne_zero]
  case e_pv => exact decide_eq_decide.mpr (zero_sub_overflow_iff a)
  case e_c =>
    rw [Bool.eq_iff_iff]
    simp [bit01, Nat.pos_iff_ne_zero, ← BitVec.toNat_inj]

theorem ran_negate (s : State) : Ran s (negate s) (fetchOp2 s) (pagingAfter2 s)
    { ran2 s (s.cpu.pc + 2) with
      a := 0 - s.cpu.a, f := szxyF (0 - s.cpu.a) (s.cpu.a.toNat % 16 != 0) (s.cpu.a == 0x80) true (s.cpu.a != 0) }
    [] := by
  rw [negate, subByte_zero_left]
  exact ((ran_fetchOp2 s).setAF _ _).skip 2

theorem ran_drawnFlags (op : Byte → Bool → Bool → Byte) (s : State) :
    Ran { s with drawCount := s.drawCount + 2 } (drawnFlags op s) (fetchOp s) (pagingAfter1 s)
      { ran1 s (s.cpu.pc + 1) with
        f := op s.cpu.f (Config.drawBool s.drawCount) (Config.drawBool (s.drawCount + 1)) } [] :=
  ((ran_fetchOp s).setF_drawTwo (op s.cpu.f)).skip 1

/-- Settles O36: each is its fetches, A and F set, and PC moved. -/
theorem accumulatorAndFlags : Obligations.AccumulatorAndFlags := by
  intro s
  refine ⟨?daa, ?cpl, ⟨_, rfl, (ran_negate s).regsOnly⟩,
    fun hu _ => ⟨_, undocumented_of_execute hu _, (ran_negate s).regsOnly⟩,
    ⟨_, rfl, (ran_drawnFlags ccfF s).regsOnly⟩, ⟨_, rfl, (ran_drawnFlags scfF s).regsOnly⟩⟩
  case daa =>
    dsimp only
    rw [← daaCorrection_eq]
    exact ⟨_, rfl, (((ran_fetchOp s).setAF _ _).skip 1).regsOnly⟩
  case cpl =>
    have complement : s.cpu.a ^^^ 0xFF = ~~~s.cpu.a := BitVec.xor_allOnes
    rw [← cplF_not, ← complement]
    exact ⟨_, rfl, (((ran_fetchOp s).setAF _ _).skip 1).regsOnly⟩

end Sys2Proof.Machine
end

section
/-! The 16-bit arithmetic (41 R321 to R328). -/

namespace Sys2Proof.Machine

/-- ADD: the sum, and an F that keeps S, Z and PV (41 R321). -/
theorem addWord_eq (a v : Word) (f : Byte) : addWord a v f
    = (a + v, packF (flagS f) (flagZ f) ((a + v).getLsbD 13) (decide (0xFFF < a.toNat % 4096 + v.toNat % 4096))
        ((a + v).getLsbD 11) (flagPV f) false (decide (0xFFFF < a.toNat + v.toNat))) := by
  have sum : BitVec.ofNat 16 (a.toNat + v.toNat) = a + v := by simp [BitVec.ofNat_add]
  rw [addWord, sum]
  rfl

/-- The overflow of an addition: operands of one sign, a result of the other. -/
theorem signs_agree_decide (a v r : Word) : (a.getLsbD 15 == v.getLsbD 15 && r.getLsbD 15 != a.getLsbD 15)
    = decide (a.msb = v.msb ∧ r.msb ≠ a.msb) := by
  rw [Bool.eq_iff_iff]
  simp [BitVec.msb_eq_getLsbD_last]

/-- ADC: the sum with the carry in, and an F that keeps nothing (41 R322). -/
theorem adcWord_eq (a v : Word) (c : Bool) :
    let n := bit01 c
    let res := a + v + BitVec.ofNat 16 n
    adcWord a v c = (res, packF res.msb (res == 0) (res.getLsbD 13)
      (decide (0xFFF < a.toNat % 4096 + v.toNat % 4096 + n)) (res.getLsbD 11)
      (decide (a.msb = v.msb ∧ res.msb ≠ a.msb)) false (decide (0xFFFF < a.toNat + v.toNat + n))) := by
  have sum : BitVec.ofNat 16 (a.toNat + v.toNat + bit01 c) = a + v + BitVec.ofNat 16 (bit01 c) := by
    simp [BitVec.ofNat_add]
  rw [adcWord, sum, signs_agree_decide, ← BitVec.msb_eq_getLsbD_last]
  rfl

/-- The overflow of a subtraction: operands of two signs, a result of the subtrahend's. -/
theorem signs_differ_decide (a v r : Word) : (a.getLsbD 15 != v.getLsbD 15 && r.getLsbD 15 != a.getLsbD 15)
    = decide (a.msb ≠ v.msb ∧ r.msb ≠ a.msb) := by
  rw [Bool.eq_iff_iff]
  simp [BitVec.msb_eq_getLsbD_last]

/-- SBC: the difference with the borrow in, and an F that keeps nothing (41 R323). -/
theorem sbcWord_eq (a v : Word) (c : Bool) :
    let n := bit01 c
    let res := a - v - BitVec.ofNat 16 n
    sbcWord a v c = (res, packF res.msb (res == 0) (res.getLsbD 13)
      (decide (a.toNat % 4096 < v.toNat % 4096 + n)) (res.getLsbD 11)
      (decide (a.msb ≠ v.msb ∧ res.msb ≠ a.msb)) true (decide (a.toNat < v.toNat + n))) := by
  rw [sbcWord, signs_differ_decide, ← BitVec.msb_eq_getLsbD_last]
  rfl

/-- A result of HL and its flags, after two opcode fetches and 7 T-states. -/
theorem ran_wordToHl (s : State) (o : Word × Byte) : Ran s (wordToHl o s) (internalIr 7 (fetchOp2 s))
    (pagingAfter2 s) { (ran2 s (s.cpu.pc + 2)).setHl o.1 with f := o.2 } [] :=
  ((ran_fetchOp2 s).internalIr 7).mapCpu_setF_skip (keepsPc_setPair .hl o.1) o.2 2

theorem keepsPc_movePair (p : RegPair) (g : Word → Word) : KeepsPc fun c => c.setPair p (g (c.pair p)) :=
  fun _ _ => by cases p <;> rfl

theorem keepsPc_moveIdx (i : Idx) (g : Word → Word) : KeepsPc fun c => c.setIdx i (g (c.idx i)) :=
  fun _ _ => by cases i <;> rfl

/-- Settles O37: each form is its fetches, the T-states on IR, the result and F written, and PC moved. -/
theorem wordArithmetic : Obligations.WordArithmetic := by
  refine fun s => ⟨fun rr => ?addHlRr, fun i pp => ?addIiRr, fun rr => ?adcHlRr, fun rr => ?sbcHlRr,
    fun rr => ?incRr, fun rr => ?decRr, fun i => ?incIi, fun i => ?decIi⟩
  case addHlRr =>
    refine ⟨_, rfl, ?_⟩
    rw [addWord_eq]
    exact (((ran_fetchOp s).internalIr 7).mapCpu_setF_skip (keepsPc_setPair .hl _) _ 1).regsOnly
  case addIiRr =>
    refine ⟨_, rfl, ?_⟩
    rw [addWord_eq]
    exact (((ran_fetchOp2 s).internalIr 7).mapCpu_setF_skip (keepsPc_setIdx i _) _ 2).regsOnly
  case adcHlRr =>
    refine ⟨_, rfl, ?_⟩
    rw [adcWord_eq]
    exact (ran_wordToHl s _).regsOnly
  case sbcHlRr =>
    refine ⟨_, rfl, ?_⟩
    rw [sbcWord_eq]
    exact (ran_wordToHl s _).regsOnly
  case incRr =>
    exact ⟨_, rfl, (((ran_fetchOp s).internalIr 2).mapCpu_skip (keepsPc_movePair rr (· + 1)) 1).regsOnly⟩
  case decRr =>
    exact ⟨_, rfl, (((ran_fetchOp s).internalIr 2).mapCpu_skip (keepsPc_movePair rr (· - 1)) 1).regsOnly⟩
  case incIi =>
    exact ⟨_, rfl, (((ran_fetchOp2 s).internalIr 2).mapCpu_skip (keepsPc_moveIdx i (· + 1)) 2).regsOnly⟩
  case decIi =>
    exact ⟨_, rfl, (((ran_fetchOp2 s).internalIr 2).mapCpu_skip (keepsPc_moveIdx i (· - 1)) 2).regsOnly⟩

end Sys2Proof.Machine
end

section
/-! The rotates and shifts of a byte bit by bit, and the CB instructions in their four forms (42 R374 to R382). -/

namespace Sys2Proof.Machine

/-! ## The bits -/

section
variable (v : Byte) (b : Bool) {i : Nat} (hi : i < 8)
include hi

/-- One bit shifted in from the right. -/
theorem getLsbD_shiftInLow :
    (v.extractLsb' 0 7 ++ BitVec.ofBool b).getLsbD i = if i = 0 then b else v.getLsbD (i - 1) := by
  rw [BitVec.getLsbD_append]
  rcases i with _ | i
  · simp
  · simp [show i < 7 by omega]

/-- One bit shifted in from the left. -/
theorem getLsbD_shiftInHigh :
    (BitVec.ofBool b ++ v.extractLsb' 1 7).getLsbD i = if i = 7 then b else v.getLsbD (i + 1) := by
  rw [BitVec.getLsbD_append]
  by_cases h7 : i = 7
  · simp [h7]
  · simp [h7, show i < 7 by omega, Nat.add_comm]

end

theorem extractLsb'_one_eq_ofBool (v : Byte) (k : Nat) : v.extractLsb' k 1 = BitVec.ofBool (v.getLsbD k) := by
  ext j hj
  simp [show j = 0 by omega]

/-! ## The four forms -/

section
variable {s t b bus : State} {pg : Paging} {c : Cpu} {ws : List (Word × Byte)}

theorem Ran.modify_fst (h : Ran s t bus pg c []) (a : Word) (f : Byte → Byte) :
    (modify a f t).1 = readThrough pg s.rom s.ram a :=
  h.memRead_fst a

/-- A byte of memory read, changed, and written back. -/
theorem Ran.modify (h : Ran s t bus pg c []) (a : Word) (f : Byte → Byte) :
    let v := f (readThrough pg s.rom s.ram a)
    Ran s (modify a f t).2 (Machine.memWrite a v (Machine.internal a 1 (Machine.skipRead a bus))) pg c [(a, v)] := by
  rw [← h.memRead_fst a]
  exact ((h.skipRead a).internal a 1).memWrite a _

/-- A byte of memory rotated in place: the result. -/
theorem Ran.rotMem_fst (h : Ran s t bus pg c []) (op : Rot) (a : Word) :
    (rotMem op a t).1 = (op (readThrough pg s.rom s.ram a) (flagC c.f)).1 := by
  obtain rfl := h.cpu
  rw [rotMem, h.modify_fst]

/-- A byte of memory rotated in place: the machine. -/
theorem Ran.rotMem (h : Ran s t bus pg c []) (op : Rot) (a : Word) :
    let o := op (readThrough pg s.rom s.ram a) (flagC c.f)
    Ran s (rotMem op a t).2 (Machine.memWrite a o.1 (Machine.internal a 1 (Machine.skipRead a bus))) pg
      { c with f := rotF o.1 o.2 } [(a, o.1)] := by
  obtain rfl := h.cpu
  rw [Machine.rotMem, h.modify_fst]
  exact (h.modify a _).setF _

end

theorem ran_fetchXcb (s : State) : Ran s (fetchXcb s) (fetchXcb s) (pagingAfter2 s) (ran2 s s.cpu.pc) [] :=
  (ran_fetchOp2Nn s).internal _ _

/-- An instruction undocumented or not, where the configuration executes it. -/
theorem next_of_undocumented_ite {s : State} {undoc : Bool} (hu : undoc = true → s.cfg.undoc = .execute)
    (t : State) : (if undoc then undocumented s t else .next t) = .next t := by
  split
  · next h => exact undocumented_of_execute (hu h) t
  · rfl

/-- Four instructions that are the four forms of one rotate or shift: in each the operand is fetched or read, the
result and F written, and PC moved. -/
theorem rotateClaim_of_exec {op : Rot} {undoc : Bool} {fr : Reg8 → Instr} {fm : Instr} {fx : Idx → Byte → Instr}
    {fc : Idx → Byte → Reg8 → Instr} {s : State}
    (onReg : ∀ r, exec (fr r) s = if undoc then undocumented s (rotReg op r s) else .next (rotReg op r s))
    (onMHl : exec fm s = if undoc then undocumented s (rotMHl op s) else .next (rotMHl op s))
    (onMIx : ∀ i d, exec (fx i d) s = if undoc then undocumented s (rotMIx op i d s) else .next (rotMIx op i d s))
    (copy : ∀ i d r, exec (fc i d r) s = undocumented s (rotMIxCopy op i d r s)) :
    rotateClaim op undoc fr fm fx fc s := by
  refine ⟨fun hu => ⟨fun r => ?reg, ?mHl, fun i d => ?mIx⟩, fun hu i d r => ?copy⟩
  case reg =>
    exact ⟨_, (onReg r).trans (next_of_undocumented_ite hu _),
      ((ran_fetchOp2 s).mapCpu_setF_skip (keepsPc_setReg r _) _ 2).regsOnly⟩
  case mHl =>
    exact ⟨_, onMHl.trans (next_of_undocumented_ite hu _),
      (((ran_fetchOp2 s).rotMem op s.cpu.hl).skip 2).storesOnly⟩
  case mIx =>
    exact ⟨_, (onMIx i d).trans (next_of_undocumented_ite hu _),
      (((ran_fetchXcb s).rotMem op (s.cpu.ea i d)).skip 4).storesOnly⟩
  case copy =>
    refine ⟨_, (copy i d r).trans (undocumented_of_execute hu _), ?_⟩
    rw [rotMIxCopy, (ran_fetchXcb s).rotMem_fst]
    exact (((ran_fetchXcb s).rotMem op (s.cpu.ea i d)).mapCpu_skip (keepsPc_setReg r _) 4).storesOnly

/-- Settles O38: each operation shifts one bit in at an end of the byte, and its instructions are its four forms. -/
theorem rotatesAndShifts : Obligations.RotatesAndShifts := by
  refine ⟨fun v c => ⟨⟨rfl, fun i hi => ?rlc⟩, ⟨rfl, fun _ => getLsbD_shiftInLow v c⟩,
    ⟨rfl, fun _ => getLsbD_shiftInLow v false⟩, ⟨rfl, fun _ => getLsbD_shiftInLow v true⟩,
    ⟨rfl, fun i hi => ?rrc⟩, ⟨rfl, fun _ => getLsbD_shiftInHigh v c⟩, ⟨rfl, fun i hi => ?sra⟩,
    ⟨rfl, fun _ => getLsbD_shiftInHigh v false⟩⟩, fun s => ?forms⟩
  case rlc =>
    rw [rlc, extractLsb'_one_eq_ofBool]
    exact getLsbD_shiftInLow v _ hi
  case rrc =>
    rw [rrc, extractLsb'_one_eq_ofBool]
    exact getLsbD_shiftInHigh v _ hi
  case sra =>
    rw [sra, extractLsb'_one_eq_ofBool]
    exact getLsbD_shiftInHigh v _ hi
  case forms =>
    exact ⟨rotateClaim_of_exec (fun _ => rfl) rfl (fun _ _ => rfl) fun _ _ _ => rfl,
      rotateClaim_of_exec (fun _ => rfl) rfl (fun _ _ => rfl) fun _ _ _ => rfl,
      rotateClaim_of_exec (fun _ => rfl) rfl (fun _ _ => rfl) fun _ _ _ => rfl,
      rotateClaim_of_exec (fun _ => rfl) rfl (fun _ _ => rfl) fun _ _ _ => rfl,
      rotateClaim_of_exec (fun _ => rfl) rfl (fun _ _ => rfl) fun _ _ _ => rfl,
      rotateClaim_of_exec (fun _ => rfl) rfl (fun _ _ => rfl) fun _ _ _ => rfl,
      rotateClaim_of_exec (fun _ => rfl) rfl (fun _ _ => rfl) fun _ _ _ => rfl,
      rotateClaim_of_exec (fun _ => rfl) rfl (fun _ _ => rfl) fun _ _ _ => rfl⟩

end Sys2Proof.Machine
end

section
/-! The rotates of the accumulator and of the digits (42 R370 to R373, R383, R384). -/

namespace Sys2Proof.Machine

/-- A byte of its two digits. -/
theorem digits_eq_byteOf (hi lo : BitVec 4) : hi ++ lo = byteOf (hi.toNat * 16 + lo.toNat) := by
  have digits : hi.toNat * 16 + lo.toNat < 2 ^ 8 := by omega
  apply BitVec.eq_of_toNat_eq
  rw [BitVec.toNat_append, ← Nat.shiftLeft_add_eq_or_of_lt lo.isLt, Nat.shiftLeft_eq, byteOf, BitVec.toNat_ofNat,
    Nat.mod_eq_of_lt digits]

theorem lowDigit_toNat (v : Byte) : (v.extractLsb' 0 4).toNat = v.toNat % 16 := by
  rw [BitVec.extractLsb'_toNat, Nat.shiftRight_zero]

theorem highDigit_toNat (v : Byte) : (v.extractLsb' 4 4).toNat = v.toNat / 16 := by
  have hv := v.isLt
  rw [BitVec.extractLsb'_toNat, Nat.shiftRight_eq_div_pow]
  omega

/-- RLD: A's low digit in from the right of the byte, the byte's high digit out to A (42 R383). -/
theorem rldDigits_eq (a v : Byte) : rldDigits a v
    = (byteOf (v.toNat % 16 * 16 + a.toNat % 16), byteOf (a.toNat / 16 * 16 + v.toNat / 16)) := by
  simp only [rldDigits, digits_eq_byteOf, lowDigit_toNat, highDigit_toNat]

/-- RRD: A's low digit in from the left of the byte, the byte's low digit out to A (42 R384). -/
theorem rrdDigits_eq (a v : Byte) : rrdDigits a v
    = (byteOf (a.toNat % 16 * 16 + v.toNat / 16), byteOf (a.toNat / 16 * 16 + v.toNat % 16)) := by
  simp only [rrdDigits, digits_eq_byteOf, lowDigit_toNat, highDigit_toNat]

section
variable (s : State)

theorem ran_rotA (op : Rot) :
    let o := op s.cpu.a (flagC s.cpu.f)
    Ran s (rotA op s) (fetchOp s) (pagingAfter1 s)
      { ran1 s (s.cpu.pc + 1) with a := o.1, f := rotAF o.1 s.cpu.f o.2 } [] :=
  ((ran_fetchOp s).setAF _ _).skip 1

theorem ran_rotDigits (op : Digits) :
    let o := op s.cpu.a (readAfter2 s s.cpu.hl)
    Ran s (rotDigits op s) (memWrite s.cpu.hl o.1 (internal s.cpu.hl 4 (skipRead s.cpu.hl (fetchOp2 s))))
      (pagingAfter2 s) { ran2 s (s.cpu.pc + 2) with a := o.2, f := rotF o.2 (flagC s.cpu.f) } [(s.cpu.hl, o.1)] := by
  rw [rotDigits, (ran_fetchOp2 s).memRead_fst]
  exact (((((ran_fetchOp2 s).skipRead s.cpu.hl).internal s.cpu.hl 4).memWrite s.cpu.hl _).setAF _ _).skip 2

end

/-- Settles O39: each is its fetches, the digit rotates' byte read and written, A and F set, and PC moved. -/
theorem accumulatorAndDigitRotates : Obligations.AccumulatorAndDigitRotates := by
  refine fun s => ⟨⟨_, rfl, (ran_rotA s rlc).regsOnly⟩, ⟨_, rfl, (ran_rotA s rl).regsOnly⟩,
    ⟨_, rfl, (ran_rotA s rrc).regsOnly⟩, ⟨_, rfl, (ran_rotA s rr).regsOnly⟩, ?rld, ?rrd⟩
  case rld =>
    have ran := ran_rotDigits s rldDigits
    rw [rldDigits_eq] at ran
    exact ⟨_, rfl, ran.storesOnly⟩
  case rrd =>
    have ran := ran_rotDigits s rrdDigits
    rw [rrdDigits_eq] at ran
    exact ⟨_, rfl, ran.storesOnly⟩

end Sys2Proof.Machine
end

section
/-! BIT, SET and RES (42 R385 to R387). -/

namespace Sys2Proof.Machine

/-! ## The bits SET and RES change -/

theorem getLsbD_one_shiftLeft (b : BitVec 3) (i : Nat) : (1#8 <<< b.toNat).getLsbD i = decide (i = b.toNat) := by
  rw [← BitVec.twoPow_eq, BitVec.getLsbD_twoPow, decide_eq_true b.isLt, Bool.true_and]
  exact decide_eq_decide.mpr eq_comm

theorem getLsbD_setBit (b : BitVec 3) (v : Byte) (i : Nat) :
    (setBit b v).getLsbD i = (v.getLsbD i || decide (i = b.toNat)) := by
  rw [setBit, BitVec.getLsbD_or, getLsbD_one_shiftLeft]

theorem getLsbD_resBit (b : BitVec 3) (v : Byte) {i : Nat} (hi : i < 8) :
    (resBit b v).getLsbD i = (v.getLsbD i && decide (i ≠ b.toNat)) := by
  rw [resBit, BitVec.getLsbD_and, BitVec.getLsbD_not, getLsbD_one_shiftLeft, decide_not, decide_eq_true hi,
    Bool.true_and]

/-! ## BIT of a byte of memory -/

section
variable {s t bus : State} {pg : Paging} {c : Cpu} {ws : List (Word × Byte)}

theorem Ran.probe_fst (h : Ran s t bus pg c []) (a : Word) : (probe a t).1 = readThrough pg s.rom s.ram a :=
  h.memRead_fst a

theorem Ran.probe (h : Ran s t bus pg c ws) (a : Word) :
    Ran s (probe a t).2 (Machine.internal a 1 (Machine.skipRead a bus)) pg c ws :=
  (h.skipRead a).internal a 1

/-- F of BIT, with its two draws. -/
theorem Ran.bitMem (h : Ran s t bus pg c ws) (bit : BitVec 3) (v : Byte) :
    Ran { s with drawCount := s.drawCount + 2 } (bitMem bit v t) bus pg
      { c with f := bitF bit v c.f (Config.drawBool s.drawCount) (Config.drawBool (s.drawCount + 1)) } ws := by
  obtain rfl := h.cpu
  exact h.setF_drawTwo (bitF bit v t.cpu.f)

end

theorem ran_bitMIx (s : State) (bit : BitVec 3) (i : Idx) (d : Byte) :
    Ran { s with drawCount := s.drawCount + 2 } (bitMIx bit i d s)
      (internal (s.cpu.ea i d) 1 (skipRead (s.cpu.ea i d) (fetchXcb s))) (pagingAfter2 s)
      { ran2 s (s.cpu.pc + 4) with
        f := bitF bit (readAfter2 s (s.cpu.ea i d)) s.cpu.f (Config.drawBool s.drawCount)
          (Config.drawBool (s.drawCount + 1)) } [] := by
  rw [bitMIx, (ran_fetchXcb s).probe_fst]
  exact (((ran_fetchXcb s).probe (s.cpu.ea i d)).bitMem bit _).skip 4

/-! ## SET and RES -/

theorem keepsPc_changeReg (r : Reg8) (g : Byte → Byte) : KeepsPc fun c => c.setReg r (g (c.reg r)) :=
  fun _ _ => by cases r <;> rfl

section
variable (s : State) (g : Byte → Byte)

theorem ran_changeReg (r : Reg8) : Ran s (changeReg g r s) (fetchOp2 s) (pagingAfter2 s)
    ((ran2 s (s.cpu.pc + 2)).setReg r (g (s.cpu.reg r))) [] :=
  (ran_fetchOp2 s).mapCpu_skip (keepsPc_changeReg r g) 2

theorem ran_changeMHl :
    let v := g (readAfter2 s s.cpu.hl)
    Ran s (changeMHl g s) (memWrite s.cpu.hl v (internal s.cpu.hl 1 (skipRead s.cpu.hl (fetchOp2 s))))
      (pagingAfter2 s) (ran2 s (s.cpu.pc + 2)) [(s.cpu.hl, v)] :=
  ((ran_fetchOp2 s).modify s.cpu.hl g).skip 2

section
variable (i : Idx) (d : Byte)

theorem ran_changeMIx :
    let ea := s.cpu.ea i d
    let v := g (readAfter2 s ea)
    Ran s (changeMIx g i d s) (memWrite ea v (internal ea 1 (skipRead ea (fetchXcb s)))) (pagingAfter2 s)
      (ran2 s (s.cpu.pc + 4)) [(ea, v)] :=
  ((ran_fetchXcb s).modify (s.cpu.ea i d) g).skip 4

theorem ran_changeMIxCopy (r : Reg8) :
    let ea := s.cpu.ea i d
    let v := g (readAfter2 s ea)
    Ran s (changeMIxCopy g i d r s) (memWrite ea v (internal ea 1 (skipRead ea (fetchXcb s)))) (pagingAfter2 s)
      ((ran2 s (s.cpu.pc + 4)).setReg r v) [(ea, v)] := by
  rw [changeMIxCopy, (ran_fetchXcb s).modify_fst]
  exact ((ran_fetchXcb s).modify (s.cpu.ea i d) g).mapCpu_skip (keepsPc_setReg r _) 4

end

end

/-- Settles O40: BIT is its fetches, the byte of memory read, and F set; SET and RES change the one bit of the operand
in place, and the copy forms write it to the register too. -/
theorem bitInstructions : Obligations.BitInstructions := by
  refine ⟨fun s b => ⟨fun r => ?bitBR, ?bitBMHl, fun i d => ⟨_, rfl, (ran_bitMIx s b i d).regsOnly⟩,
      fun hu i d _ => ⟨_, undocumented_of_execute hu _, (ran_bitMIx s b i d).regsOnly⟩⟩,
    fun b v i hi => ⟨getLsbD_setBit b v i, getLsbD_resBit b v hi⟩, fun s b => ?change⟩
  case bitBR => exact ⟨_, rfl, (((ran_fetchOp2 s).setF _).skip 2).regsOnly⟩
  case bitBMHl =>
    refine ⟨_, rfl, ?_⟩
    rw [(ran_fetchOp2 s).probe_fst]
    exact ((((ran_fetchOp2 s).probe s.cpu.hl).bitMem b _).skip 2).regsOnly
  case change =>
    exact ⟨fun r => ⟨_, rfl, (ran_changeReg s _ r).regsOnly⟩, fun r => ⟨_, rfl, (ran_changeReg s _ r).regsOnly⟩,
      ⟨_, rfl, (ran_changeMHl s _).storesOnly⟩, ⟨_, rfl, (ran_changeMHl s _).storesOnly⟩,
      fun i d => ⟨⟨_, rfl, (ran_changeMIx s _ i d).storesOnly⟩, ⟨_, rfl, (ran_changeMIx s _ i d).storesOnly⟩⟩,
      fun hu i d r => ⟨⟨_, undocumented_of_execute hu _, (ran_changeMIxCopy s _ i d r).storesOnly⟩,
        ⟨_, undocumented_of_execute hu _, (ran_changeMIxCopy s _ i d r).storesOnly⟩⟩⟩

end Sys2Proof.Machine
end

section
/-! Jumps, calls and returns (43 R400 to R413; 40 R250, R252). -/

namespace Sys2Proof.Machine

/-! ## Conditions -/

theorem condHolds_iff (f : Byte) (cc : Cond) : condHolds f cc = true ↔ condOf f cc := by
  cases cc <;> simp [condHolds, condOf, flagZ, flagC, flagPV, flagS]

theorem jrHolds_eq (f : Byte) (cc : JrCond) : jrHolds f cc = condHolds f (jrAsCond cc) := by cases cc <;> rfl

theorem jrHolds_iff (f : Byte) (cc : JrCond) : jrHolds f cc = true ↔ condOf f (jrAsCond cc) := by
  rw [jrHolds_eq, condHolds_iff]

/-- An instruction with two ends, taken and not taken: each end meets its clause of the statement. -/
theorem completes_taken {i : Instr} {s t u : State} {q p : Prop} [Decidable q] {P Q : State → Prop}
    (hexec : exec i s = .next (if q then t else u)) (hq : q ↔ p) (ht : p → P t) (hu : ¬ p → Q u) :
    Completes i s fun v => (p → P v) ∧ (¬ p → Q v) := by
  refine ⟨_, hexec, fun taken => ?_, fun notTaken => ?_⟩
  · rw [if_pos (hq.mpr taken)]
    exact ht taken
  · rw [if_neg (mt hq.mp notTaken)]
    exact hu notTaken

/-! ## Where PC goes -/

section
variable {s t b bus : State} {pg : Paging} {c : Cpu} {ws : List (Word × Byte)}

theorem Ran.setPc (h : Ran s t bus pg c ws) (a : Word) : Ran s (t.setPc a) bus pg { c with pc := a } ws :=
  h.mapCpu fun c => { c with pc := a }

theorem Ran.takeRel (h : Ran s t bus pg c ws) (pc : Word) (e : Byte) :
    Ran s (takeRel pc e t) (Machine.internal (pc + 1) 5 bus) pg { c with pc := relTarget pc e } ws :=
  (h.internal (pc + 1) 5).setPc _

theorem Ran.call (h : Ran s b b pg c ws) (back target : Word) :
    Ran s (call back target b) (Machine.push back b) pg { c with pc := target, sp := c.sp - 2 }
      (ws ++ [(c.sp - 1, hiByte back)] ++ [(c.sp - 2, loByte back)]) :=
  (h.push back).setPc target

theorem Ran.returnTo (h : Ran s t bus pg c []) :
    Ran s (returnTo t) (Machine.skipRead (c.sp + 1) (Machine.skipRead c.sp bus)) pg
      { c with
        pc := mkWord (readThrough pg s.rom s.ram (c.sp + 1)) (readThrough pg s.rom s.ram c.sp), sp := c.sp + 2 }
      [] := by
  rw [Machine.returnTo, h.pop_fst]
  exact h.pop.setPc _

theorem Ran.returnFromInterrupt (h : Ran s t bus pg c []) :
    Ran s (returnFromInterrupt t) (Machine.skipRead (c.sp + 1) (Machine.skipRead c.sp bus)) pg
      { c with
        pc := mkWord (readThrough pg s.rom s.ram (c.sp + 1)) (readThrough pg s.rom s.ram c.sp), sp := c.sp + 2,
        iff1 := c.iff2 }
      [] := by
  rw [Machine.returnFromInterrupt, h.pop_fst]
  exact h.pop.mapCpu fun d => { d with pc := _, iff1 := d.iff2 }

end

/-- B counted down, the two bytes read (43 R406). -/
theorem ran_countB (s : State) :
    Ran s ((skipRead (s.cpu.pc + 1) (internalIr 1 (fetchOp s))).mapCpu fun c => { c with b := s.cpu.b - 1 })
      (skipRead (s.cpu.pc + 1) (internalIr 1 (fetchOp s))) (pagingAfter1 s)
      { ran1 s s.cpu.pc with b := s.cpu.b - 1 } [] :=
  (((ran_fetchOp s).internalIr 1).skipRead _).mapCpu fun c => { c with b := s.cpu.b - 1 }

/-- Settles O41: each jump is its fetches and PC set or moved on; a conditional one has both ends. -/
theorem jumps : Obligations.Jumps := by
  refine fun s => ⟨fun nn => ?jpNn, fun cc nn => ?jpCNn, fun e => ?jr, fun cc e => ?jrC, ?jpHl, fun i => ?jpIi,
    fun e => ?djnz⟩
  case jpNn => exact ⟨_, rfl, ((ran_fetchOpNn s).setPc nn).regsOnly⟩
  case jpCNn =>
    exact completes_taken rfl (condHolds_iff _ cc) (fun _ => ((ran_fetchOpNn s).setPc nn).regsOnly)
      fun _ => ((ran_fetchOpNn s).skip 3).regsOnly
  case jr => exact ⟨_, rfl, ((ran_fetchOpN s).takeRel s.cpu.pc e).regsOnly⟩
  case jrC =>
    exact completes_taken rfl (jrHolds_iff _ cc) (fun _ => ((ran_fetchOpN s).takeRel s.cpu.pc e).regsOnly)
      fun _ => ((ran_fetchOpN s).skip 2).regsOnly
  case jpHl => exact ⟨_, rfl, ((ran_fetchOp s).setPc _).regsOnly⟩
  case jpIi => exact ⟨_, rfl, ((ran_fetchOp2 s).setPc _).regsOnly⟩
  case djnz =>
    have last : s.cpu.b - 1 = 0 ↔ s.cpu.b = 1 := sub_eq_zero
    refine completes_taken rfl last (fun one => ?_) fun _ => ((ran_countB s).takeRel s.cpu.pc e).regsOnly
    have ran := (ran_countB s).skip 2
    rw [last.mpr one] at ran
    rw [last.mpr one]
    exact ran.regsOnly

/-- Settles O42: a call is its fetches, the push of the address after it, and PC set; a return is its fetches and the
pop into PC. -/
theorem callsAndReturns : Obligations.CallsAndReturns := by
  intro s
  have called (nn : Word) := (((ran_fetchOpNn s).internal (s.cpu.pc + 2) 1).call (s.cpu.pc + 3) nn).storesOnly
  have returned := (ran_fetchOp2 s).returnFromInterrupt.regsOnly
  refine ⟨fun nn => ⟨_, rfl, called nn⟩, fun cc nn => ?callCNn, fun k => ?rst,
    ⟨_, rfl, (ran_fetchOp s).returnTo.regsOnly⟩, fun cc => ?retC, ⟨_, rfl, returned⟩, ⟨_, rfl, returned⟩,
    fun hu _ => ⟨_, undocumented_of_execute hu _, returned⟩⟩
  case callCNn =>
    exact completes_taken rfl (condHolds_iff _ cc) (fun _ => called nn) fun _ => ((ran_fetchOpNn s).skip 3).regsOnly
  case rst =>
    rw [Nat.mul_comm 8]
    exact ⟨_, rfl, (((ran_fetchOp s).internalIr 1).call (s.cpu.pc + 1) _).storesOnly⟩
  case retC =>
    exact completes_taken rfl (condHolds_iff _ cc) (fun _ => ((ran_fetchOp s).internalIr 1).returnTo.regsOnly)
      fun _ => (((ran_fetchOp s).internalIr 1).skip 1).regsOnly

end Sys2Proof.Machine
end

section
/-! CPU control, and the encodings that only move PC (43 R420 to R424, R450, R451). -/

namespace Sys2Proof.Machine

/-- The modes of `im[y]` (30 R186). -/
theorem imOf_eq_getD :
    ∀ y : BitVec 3, imOf y = [.im0, .im0, .im1, .im2, .im0, .im0, .im1, .im2].getD y.toNat .im0 := by
  decide

theorem ran_setIm (s : State) (m : IntMode) :
    Ran s (setIm m s) (fetchOp2 s) (pagingAfter2 s) { ran2 s (s.cpu.pc + 2) with im := m } [] :=
  ((ran_fetchOp2 s).mapCpu fun c => { c with im := m }).skip 2

/-- Settles O43: each is its fetches, its one change of the registers, and PC moved. -/
theorem cpuControl : Obligations.CpuControl := by
  refine fun s => ⟨⟨_, rfl, ((ran_fetchOp s).skip 1).regsOnly⟩,
    ⟨_, rfl, (((ran_fetchOp s).mapCpu _).skip 1).regsOnly⟩, ⟨_, rfl, (((ran_fetchOp s).mapCpu _).skip 1).regsOnly⟩,
    ⟨_, rfl, (((ran_fetchOp s).mapCpu _).skip 1).regsOnly⟩, ⟨_, rfl, (ran_setIm s .im0).regsOnly⟩,
    ⟨_, rfl, (ran_setIm s .im1).regsOnly⟩, ⟨_, rfl, (ran_setIm s .im2).regsOnly⟩,
    fun hu => ⟨fun y => ?imDup, fun _ => ?noni, fun _ => ?nopEd7, fun _ => ?ignoredPrefix⟩⟩
  case imDup =>
    rw [← imOf_eq_getD]
    exact ⟨_, undocumented_of_execute hu _, (ran_setIm s (imOf y)).regsOnly⟩
  case noni | nopEd7 => all_goals exact ⟨_, undocumented_of_execute hu _, ((ran_fetchOp2 s).skip 2).regsOnly⟩
  case ignoredPrefix =>
    exact ⟨_, undocumented_of_execute hu _, (((ran_fetchOp s).mapCpu _).skip 1).regsOnly⟩

end Sys2Proof.Machine
end

section
/-! Input and output of one byte (43 R430 to R432, R437 to R439). -/

namespace Sys2Proof.Machine

/-- The port BC read, and F set from its byte. -/
theorem ran_inputBc (s : State) :
    let v := ioRead s.cpu.bc (fetchOp2 s)
    Ran { s with disk := v.2.disk, tape := v.2.tape } (inputBc s).2 v.2 (pagingAfter2 s)
      { ran2 s s.cpu.pc with f := rotF v.1 (flagC s.cpu.f) } [] :=
  ((ran_fetchOp2 s).ioRead s.cpu.bc).setF _

/-- Settles O44: each is its fetches, the cycle of its port, its register and F set, and PC moved. -/
theorem byteInputAndOutput : Obligations.ByteInputAndOutput := by
  refine fun s => ⟨fun n => ?inAN, fun r => ?inRC, fun hu => ?inFC, fun n => ?outNA, fun r => ?outCR,
    fun hu => ?outC0⟩
  case inAN => exact ⟨_, rfl, ((((ran_fetchOpN s).ioRead (portAn s n)).setA _).skip 2).readsPort⟩
  case inRC => exact ⟨_, rfl, ((ran_inputBc s).mapCpu_skip (keepsPc_setReg r _) 2).readsPort⟩
  case inFC => exact ⟨_, undocumented_of_execute hu _, ((ran_inputBc s).skip 2).readsPort⟩
  case outNA => exact ⟨_, rfl, (((ran_fetchOpN s).ioWrite (portAn s n) _).skip 2).writesPort⟩
  case outCR => exact ⟨_, rfl, (((ran_fetchOp2 s).ioWrite s.cpu.bc _).skip 2).writesPort⟩
  case outC0 => exact ⟨_, undocumented_of_execute hu _, (((ran_fetchOp2 s).ioWrite s.cpu.bc _).skip 2).writesPort⟩

end Sys2Proof.Machine
end

section
/-! The control state of the Z80: what each instruction leaves of IFF1, IFF2, IM, `halted`, `eiBlock`, `nmiPending`,
I and R (43 R411 to R424, R451; 40 R246, R247; 44 R462; 10 R36). -/

namespace Sys2Proof.Machine

/-- The interrupt state, I and R. -/
structure Control where
  iff1 : Bool
  iff2 : Bool
  im : IntMode
  halted : Bool
  eiBlock : Bool
  nmiPending : Bool
  i : Byte
  r : Byte

/-- The control state among the registers. -/
def Cpu.control (c : Cpu) : Control where
  iff1 := c.iff1
  iff2 := c.iff2
  im := c.im
  halted := c.halted
  eiBlock := c.eiBlock
  nmiPending := c.nmiPending
  i := c.i
  r := c.r

/-- One opcode fetch moves R on. -/
def Control.fetched (k : Control) : Control := { k with r := nextR k.r }

theorem nextR_toNat (r : Byte) : (nextR r).toNat = r.toNat / 128 * 128 + (r.toNat + 1) % 128 := by
  have hr := r.isLt
  rw [nextR, BitVec.toNat_append, ← Nat.shiftLeft_add_eq_or_of_lt (BitVec.isLt _), Nat.shiftLeft_eq,
    BitVec.toNat_add, BitVec.extractLsb'_toNat, BitVec.extractLsb'_toNat, Nat.shiftRight_eq_div_pow,
    Nat.shiftRight_zero, show (1 : BitVec 7).toNat = 1 from rfl]
  omega

/-! ## What changes of the registers leave the control state -/

section
variable (c : Cpu)

theorem control_setReg (r : Reg8) (v : Byte) : (c.setReg r v).control = c.control := by cases r <;> rfl
theorem control_setHl (w : Word) : (c.setHl w).control = c.control := rfl
theorem control_setPair (p : RegPair) (w : Word) : (c.setPair p w).control = c.control := by cases p <;> rfl
theorem control_setStackPair (p : StackPair) (w : Word) : (c.setStackPair p w).control = c.control := by
  cases p <;> rfl
theorem control_setIdx (i : Idx) (w : Word) : (c.setIdx i w).control = c.control := by cases i <;> rfl
theorem control_setHalf (i : Idx) (h : Half) (v : Byte) : (c.setHalf i h v).control = c.control := by
  cases h <;> exact control_setIdx c i _
theorem control_setHalfReg (i : Idx) (r : HalfReg) (v : Byte) : (c.setHalfReg i r v).control = c.control := by
  cases r with
  | ih | il => exact control_setHalf c i _ v
  | _ => rfl

end

/-! ## What keeps the control state -/

/-- The control state is `k`. -/
def HasControl (k : Control) (t : State) : Prop := t.cpu.control = k

theorem Ran.hasControl {s t bus : State} {pg : Paging} {c : Cpu} {ws : List (Word × Byte)}
    (h : Ran s t bus pg c ws) : HasControl c.control t :=
  congrArg Cpu.control h.cpu

namespace HasControl

section
variable {k : Control} {t : State} (h : HasControl k t)
include h

/-- Whatever leaves the registers alone. -/
theorem of_cpu {u : State} (same : u.cpu = t.cpu) : HasControl k u := (congrArg Cpu.control same).trans h

theorem mapCpu {f : Cpu → Cpu} (keeps : ∀ c, (f c).control = c.control) : HasControl k (t.mapCpu f) :=
  (keeps t.cpu).trans h

theorem skip (n : Nat) : HasControl k (t.skip n) := h
theorem setPc (a : Word) : HasControl k (t.setPc a) := h
theorem setSp (a : Word) : HasControl k (t.setSp a) := h
theorem setA (v : Byte) : HasControl k (t.setA v) := h
theorem setF (v : Byte) : HasControl k (t.setF v) := h
theorem setAF (v w : Byte) : HasControl k (t.setAF v w) := h
theorem drawBool : HasControl k (drawBool t).2 := h

theorem fetch (a : Word) : HasControl k.fetched (fetch a t) :=
  (congrArg Cpu.control (fetch_cpu a t)).trans (congrArg Control.fetched h)

theorem internal (a : Word) (n : Nat) : HasControl k (internal a n t) := h.of_cpu (internal_cpu a n t)
theorem internalIr (n : Nat) : HasControl k (internalIr n t) := h.of_cpu (internalIr_cpu n t)
theorem skipRead (a : Word) : HasControl k (skipRead a t) := h.of_cpu (skipRead_cpu a t)
theorem memRead (a : Word) : HasControl k (memRead a t).2 := h.of_cpu (memRead_cpu a t)
theorem memReadWord (a : Word) : HasControl k (memReadWord a t).2 := h.of_cpu (memReadWord_cpu a t)
theorem memWrite (a : Word) (v : Byte) : HasControl k (memWrite a v t) := h.of_cpu (memWrite_cpu a v t)
theorem memWriteWord (a w : Word) : HasControl k (memWriteWord a w t) := h.of_cpu (memWriteWord_cpu a w t)
theorem modify (a : Word) (f : Byte → Byte) : HasControl k (modify a f t).2 := h.of_cpu (modify_cpu a f t)
theorem probe (a : Word) : HasControl k (probe a t).2 := h.of_cpu (probe_cpu a t)
theorem ioRead (p : Word) : HasControl k (ioRead p t).2 := h.of_cpu (by rw [ioRead_frame])
theorem ioWrite (p : Word) (v : Byte) : HasControl k (ioWrite p v t) := h.of_cpu (by rw [ioWrite_frame])

theorem push (w : Word) : HasControl k (push w t) := ((h.memWrite _ _).memWrite _ _).setSp _
theorem pop : HasControl k (pop t).2 := (h.memReadWord _).setSp _
theorem call (back target : Word) : HasControl k (call back target t) := (h.push back).setPc target
theorem returnTo : HasControl k (returnTo t) := h.pop.setPc _
theorem takeRel (pc : Word) (e : Byte) : HasControl k (takeRel pc e t) := (h.internal _ 5).setPc _
theorem loadA (a : Word) : HasControl k (loadA a t) := (h.skipRead a).setA _

theorem exchangeTop (w : Word) : HasControl k (exchangeTop w t).2 :=
  ((((h.memReadWord _).internal _ 1).memWrite _ _).memWrite _ _).internal _ 2

theorem loadAIr (v : Byte) : HasControl k (loadAIr v t) := by
  unfold Machine.loadAIr
  split
  · exact h.drawBool.setAF _ _
  · exact h.setAF _ _

theorem applyAlu (op : Alu) (v : Byte) : HasControl k (applyAlu op v t) := h.setAF _ _
theorem stepMem (op : Step8) (a : Word) : HasControl k (stepMem op a t) := (h.modify a _).setF _
theorem rotMem (op : Rot) (a : Word) : HasControl k (rotMem op a t).2 := (h.modify a _).setF _
theorem bitMem (bit : BitVec 3) (v : Byte) : HasControl k (bitMem bit v t) := h.drawBool.drawBool.setF _

theorem copyEnd (v : Byte) : HasControl k (copyEnd v t) := (h.setF _).skip 2
theorem copyRepeat (a : Word) : HasControl k (copyRepeat a t) := (h.drawBool.drawBool.setF _).internal a 5
theorem searchEnd (v : Byte) : HasControl k (searchEnd v t) := (h.setF _).skip 2
theorem searchRepeat (a : Word) (v : Byte) : HasControl k (searchRepeat a v t) :=
  (h.drawBool.drawBool.setF _).internal a 5
theorem blockIoEnd (v : Byte) (n : Nat) : HasControl k (blockIoEnd v n t) := (h.setF _).skip 2
theorem blockIoRepeat (a : Word) (v : Byte) (n : Nat) : HasControl k (blockIoRepeat a v n t) :=
  (h.drawBool.drawBool.drawBool.drawBool.setF _).internal a 5

end

/-! An iteration of a block instruction changes B to L alone before its end. -/

section
variable {k : Control} {s : State} (op2 : HasControl k (fetchOp2 s)) (d : Direction)
include op2

theorem copyStep : HasControl k (copyStep d s).2 := by
  unfold Machine.copyStep
  exact (((op2.memRead _).memWrite _ _).internal _ 2).mapCpu fun _ => rfl

theorem searchStep : HasControl k (searchStep d s).2 := by
  unfold Machine.searchStep
  exact ((op2.memRead _).internal _ 5).mapCpu fun _ => rfl

theorem inStep : HasControl k (inStep d s).2 := by
  unfold Machine.inStep
  exact (((op2.internalIr 1).ioRead _).memWrite _ _).mapCpu fun _ => rfl

theorem outStep : HasControl k (outStep d s).2 := by
  unfold Machine.outStep
  have counted := ((op2.internalIr 1).memRead s.cpu.hl).mapCpu (f := fun c => { c with b := c.b - 1 }) fun _ => rfl
  exact (counted.ioWrite _ _).mapCpu fun _ => rfl

theorem wordToHl (o : Word × Byte) : HasControl k (wordToHl o s) := by
  unfold Machine.wordToHl
  exact (((op2.internalIr 7).mapCpu fun c => control_setHl c _).setF _).skip 2

end

/-- An instruction with two ends. -/
theorem ite {k : Control} {t u : State} {p : Prop} [Decidable p] (ht : HasControl k t) (hu : HasControl k u) :
    HasControl k (if p then t else u) := by
  split
  · exact ht
  · exact hu

end HasControl

/-! ## How many opcode fetches an instruction makes -/

/-- The instructions of one opcode fetch: those that begin with their opcode byte, and the ignored DD or FD byte. -/
def fetchesOne : Instr → Bool
  | .nop | .ldRrNn .. | .addHlRr _ | .ldMBcA | .ldMDeA | .ldMNnHl _ | .ldMNnA _ | .ldAMBc | .ldAMDe | .ldHlMNn _
  | .ldAMNn _ | .incRr _ | .decRr _ | .incR _ | .incMHl | .decR _ | .decMHl | .ldRN .. | .ldMHlN _ | .rlca | .rrca
  | .rla | .rra | .daa | .cpl | .scf | .ccf | .exAfAf | .djnz _ | .jr _ | .jrC .. | .ldRS .. | .ldRMHl _ | .ldMHlS _
  | .halt | .addAR _ | .addAMHl | .addAN _ | .adcAR _ | .adcAMHl | .adcAN _ | .subAR _ | .subAMHl | .subAN _
  | .sbcAR _ | .sbcAMHl | .sbcAN _ | .andAR _ | .andAMHl | .andAN _ | .xorAR _ | .xorAMHl | .xorAN _ | .orAR _
  | .orAMHl | .orAN _ | .cpAR _ | .cpAMHl | .cpAN _ | .retC _ | .popQq _ | .ret | .exx | .jpHl | .ldSpHl | .jpCNn ..
  | .jpNn _ | .outNA _ | .inAN _ | .exMSpHl | .exDeHl | .di | .ei | .callCNn .. | .pushQq _ | .callNn _ | .rst _
  | .ignoredPrefix _ => true
  | _ => false

theorem opcodeFetches_rst : ∀ n : BitVec 3, opcodeFetches (.rst n) = 1 := by decide

/-- The first byte of the encoding decides: with the operands of its fields known it is evaluated. -/
theorem opcodeFetches_eq {i : Instr} (hi : i.isWdCommand = false) :
    opcodeFetches i = if fetchesOne i then 1 else 2 := by
  cases i with
  | ldRrNn rr | addHlRr rr | incRr rr | decRr rr => cases rr <;> rfl
  | incR r | decR r | ldRN r | ldRMHl r | ldMHlS r | addAR r | adcAR r | subAR r | sbcAR r | andAR r | xorAR r | orAR r
  | cpAR r => cases r <;> rfl
  | ldRS r r2 => cases r <;> cases r2 <;> rfl
  | jrC cc | jpCNn cc | callCNn cc | retC cc => cases cc <;> rfl
  | popQq qq | pushQq qq => cases qq <;> rfl
  | rst n => exact opcodeFetches_rst n
  | ldIiNn i | addIiRr i | ldMNnIi i | ldIiMNn i | incIi i | decIi i | incIhl i | decIhl i | ldIhlN i | incMIx i
  | decMIx i | ldMIxN i | ldRMIx i | ldMIxS i | ldHalves i | addAIhl i | addAMIx i | adcAIhl i | adcAMIx i | subAIhl i
  | subAMIx i | sbcAIhl i | sbcAMIx i | andAIhl i | andAMIx i | xorAIhl i | xorAMIx i | orAIhl i | orAMIx i | cpAIhl i
  | cpAMIx i | popIi i | exMSpIi i | pushIi i | jpIi i | ldSpIi i | rlcMIx i | rlcMIxCopy i | rrcMIx i | rrcMIxCopy i
  | rlMIx i | rlMIxCopy i | rrMIx i | rrMIxCopy i | slaMIx i | slaMIxCopy i | sraMIx i | sraMIxCopy i | sllMIx i
  | sllMIxCopy i | srlMIx i | srlMIxCopy i | bitBMIx i | bitBMIxDup i | resBMIx i | resBMIxCopy i | setBMIx i
  | setBMIxCopy i => cases i <;> rfl
  | wdRestore | wdSeek | wdStep | wdStepIn | wdStepOut | wdReadSector | wdWriteSector | wdReadAddress | wdReadTrack
  | wdWriteTrack | wdForceInterrupt => cases hi
  | _ => rfl

/-- R after the opcode fetches of an instruction; a WD1793 command makes none (log 12). -/
def refreshed (i : Instr) (r : Byte) : Byte :=
  if i.isWdCommand then r else if fetchesOne i then nextR r else nextR (nextR r)

theorem refreshed_eq (i : Instr) (r : Byte) : refreshed i r
    = if i.isWdCommand then r else if opcodeFetches i = 1 then nextR r else nextR (nextR r) := by
  unfold refreshed
  cases hi : i.isWdCommand with
  | true => rfl
  | false =>
    rw [opcodeFetches_eq hi]
    cases fetchesOne i <;> rfl

/-! ## The control state after an instruction -/

/-- Which instructions set which part of the control state, and to what. -/
def controlAfter (i : Instr) (c : Cpu) : Control where
  iff1 := match i with | .ei => true | .di => false | .reti | .retn | .retnDup _ => c.iff2 | _ => c.iff1
  iff2 := match i with | .ei => true | .di => false | _ => c.iff2
  im := match i with | .im0 => .im0 | .im1 => .im1 | .im2 => .im2 | .imDup y => imOf y | _ => c.im
  halted := match i with | .halt => true | _ => c.halted
  eiBlock := match i with | .ei | .ignoredPrefix _ => true | _ => c.eiBlock
  nmiPending := c.nmiPending
  i := match i with | .ldIA => c.a | _ => c.i
  r := match i with | .ldRA => c.a | i => refreshed i c.r

/-- Each instruction is its fetches, then what keeps the control state; the ones that set a part of it are run. -/
theorem hasControl_exec (i : Instr) (s : State) : NextIs (HasControl (controlAfter i s.cpu)) (exec i s) := by
  have op : HasControl s.cpu.control.fetched (fetchOp s) := HasControl.fetch (t := s) rfl s.cpu.pc
  have opN : HasControl _ (fetchOpN s) := op.skipRead _
  have opNn : HasControl _ (fetchOpNn s) := opN.skipRead _
  have op2 : HasControl _ (fetchOp2 s) := op.fetch _
  have op2N : HasControl _ (fetchOp2N s) := op2.skipRead _
  have op2Nn : HasControl _ (fetchOp2Nn s) := op2N.skipRead _
  have opIdx : HasControl _ (fetchIdx s) := op2N.internal _ _
  have opXcb : HasControl _ (fetchXcb s) := op2Nn.internal _ _
  have mHl : HasControl _ (srcMHl s).2 := op.skipRead _
  have mIx (i : Idx) (d : Byte) : HasControl _ (srcMIx i d s).2 := opIdx.skipRead _
  have copied (d : Direction) := op2.copyStep d
  have searched (d : Direction) := op2.searchStep d
  have input (d : Direction) := op2.inStep d
  have output (d : Direction) := op2.outStep d
  have bus1 := (ran_fetchOp2 s).internalIr 1
  cases i with
  -- the instructions that set a part of it
  | ldIA | ldRA => exact nextIs_next ((bus1.mapCpu _).skip 2).hasControl
  | halt | di | ei => exact nextIs_next (((ran_fetchOp s).mapCpu _).skip 1).hasControl
  | ignoredPrefix => exact nextIs_undocumented (((ran_fetchOp s).mapCpu _).skip 1).hasControl
  | im0 | im1 | im2 => exact nextIs_next (ran_setIm s _).hasControl
  | imDup => exact nextIs_undocumented (ran_setIm s _).hasControl
  | retn | reti => exact nextIs_next (ran_fetchOp2 s).returnFromInterrupt.hasControl
  | retnDup => exact nextIs_undocumented (ran_fetchOp2 s).returnFromInterrupt.hasControl
  -- loads and exchanges
  | ldRS => exact nextIs_next ((op.mapCpu fun c => control_setReg c _ _).skip 1)
  | exAfAf | exx | exDeHl => exact nextIs_next ((op.mapCpu fun _ => rfl).skip 1)
  | ldRN => exact nextIs_next ((opN.mapCpu fun c => control_setReg c _ _).skip 2)
  | ldRrNn => exact nextIs_next ((opNn.mapCpu fun c => control_setPair c _ _).skip 3)
  | ldIiNn => exact nextIs_next ((op2Nn.mapCpu fun c => control_setIdx c _ _).skip 4)
  | ldHalves => exact nextIs_undocumented ((op2.mapCpu fun c => control_setHalfReg c _ _ _).skip 2)
  | ldIhlN => exact nextIs_undocumented ((op2N.mapCpu fun c => control_setHalf c _ _ _).skip 3)
  | ldRMHl => exact nextIs_next ((mHl.mapCpu fun c => control_setReg c _ _).skip 1)
  | ldRMIx i r d => exact nextIs_next (((mIx i d).mapCpu fun c => control_setReg c _ _).skip 3)
  | ldAMBc | ldAMDe => exact nextIs_next ((op.loadA _).skip 1)
  | ldAMNn => exact nextIs_next ((opNn.loadA _).skip 3)
  | ldHlMNn => exact nextIs_next (((opNn.memReadWord _).mapCpu fun c => control_setHl c _).skip 3)
  | ldRrMNn => exact nextIs_next (((op2Nn.memReadWord _).mapCpu fun c => control_setPair c _ _).skip 4)
  | ldIiMNn => exact nextIs_next (((op2Nn.memReadWord _).mapCpu fun c => control_setIdx c _ _).skip 4)
  | ldMBcA | ldMDeA | ldMHlS => exact nextIs_next ((op.memWrite _ _).skip 1)
  | ldMHlN => exact nextIs_next ((opN.memWrite _ _).skip 2)
  | ldMNnA => exact nextIs_next ((opNn.memWrite _ _).skip 3)
  | ldMIxS => exact nextIs_next ((opIdx.memWrite _ _).skip 3)
  | ldMIxN => exact nextIs_next (((op2Nn.internal _ 2).memWrite _ _).skip 4)
  | ldMNnHl => exact nextIs_next ((opNn.memWriteWord _ _).skip 3)
  | ldMNnRr | ldMNnIi => exact nextIs_next ((op2Nn.memWriteWord _ _).skip 4)
  | ldAI | ldAR => exact nextIs_next (((op2.internalIr 1).loadAIr _).skip 2)
  | ldSpHl => exact nextIs_next (((op.internalIr 2).setSp _).skip 1)
  | ldSpIi => exact nextIs_next (((op2.internalIr 2).setSp _).skip 2)
  | pushQq => exact nextIs_next (((op.internalIr 1).push _).skip 1)
  | pushIi => exact nextIs_next (((op2.internalIr 1).push _).skip 2)
  | popQq => exact nextIs_next ((op.pop.mapCpu fun c => control_setStackPair c _ _).skip 1)
  | popIi => exact nextIs_next ((op2.pop.mapCpu fun c => control_setIdx c _ _).skip 2)
  | exMSpHl => exact nextIs_next (((op.exchangeTop _).mapCpu fun c => control_setHl c _).skip 1)
  | exMSpIi => exact nextIs_next (((op2.exchangeTop _).mapCpu fun c => control_setIdx c _ _).skip 2)
  -- arithmetic
  | addAR | adcAR | subAR | sbcAR | andAR | xorAR | orAR | cpAR => exact nextIs_next ((op.applyAlu _ _).skip 1)
  | addAMHl | adcAMHl | subAMHl | sbcAMHl | andAMHl | xorAMHl | orAMHl | cpAMHl =>
    exact nextIs_next ((mHl.applyAlu _ _).skip 1)
  | addAN | adcAN | subAN | sbcAN | andAN | xorAN | orAN | cpAN => exact nextIs_next ((opN.applyAlu _ _).skip 2)
  | addAIhl | adcAIhl | subAIhl | sbcAIhl | andAIhl | xorAIhl | orAIhl | cpAIhl =>
    exact nextIs_undocumented ((op2.applyAlu _ _).skip 2)
  | addAMIx i d | adcAMIx i d | subAMIx i d | sbcAMIx i d | andAMIx i d | xorAMIx i d | orAMIx i d | cpAMIx i d =>
    exact nextIs_next (((mIx i d).applyAlu _ _).skip 3)
  | incR | decR => exact nextIs_next (((op.mapCpu fun c => control_setReg c _ _).setF _).skip 1)
  | incIhl | decIhl => exact nextIs_undocumented (((op2.mapCpu fun c => control_setHalf c _ _ _).setF _).skip 2)
  | incMHl | decMHl => exact nextIs_next ((op.stepMem _ _).skip 1)
  | incMIx | decMIx => exact nextIs_next ((opIdx.stepMem _ _).skip 3)
  | daa | cpl | rlca | rrca | rla | rra => exact nextIs_next ((op.setAF _ _).skip 1)
  | neg => exact nextIs_next ((op2.setAF _ _).skip 2)
  | negDup => exact nextIs_undocumented ((op2.setAF _ _).skip 2)
  | scf | ccf => exact nextIs_next ((op.drawBool.drawBool.setF _).skip 1)
  | addHlRr => exact nextIs_next ((((op.internalIr 7).mapCpu fun c => control_setHl c _).setF _).skip 1)
  | sbcHlRr | adcHlRr => exact nextIs_next (op2.wordToHl _)
  | addIiRr => exact nextIs_next ((((op2.internalIr 7).mapCpu fun c => control_setIdx c _ _).setF _).skip 2)
  | incRr | decRr => exact nextIs_next (((op.internalIr 2).mapCpu fun c => control_setPair c _ _).skip 1)
  | incIi | decIi => exact nextIs_next (((op2.internalIr 2).mapCpu fun c => control_setIdx c _ _).skip 2)
  -- rotates, shifts and bits
  | rlcR | rrcR | rlR | rrR | slaR | sraR | srlR =>
    exact nextIs_next (((op2.mapCpu fun c => control_setReg c _ _).setF _).skip 2)
  | sllR => exact nextIs_undocumented (((op2.mapCpu fun c => control_setReg c _ _).setF _).skip 2)
  | rlcMHl | rrcMHl | rlMHl | rrMHl | slaMHl | sraMHl | srlMHl => exact nextIs_next ((op2.rotMem _ _).skip 2)
  | sllMHl => exact nextIs_undocumented ((op2.rotMem _ _).skip 2)
  | rlcMIx | rrcMIx | rlMIx | rrMIx | slaMIx | sraMIx | srlMIx => exact nextIs_next ((opXcb.rotMem _ _).skip 4)
  | sllMIx => exact nextIs_undocumented ((opXcb.rotMem _ _).skip 4)
  | rlcMIxCopy | rrcMIxCopy | rlMIxCopy | rrMIxCopy | slaMIxCopy | sraMIxCopy | sllMIxCopy | srlMIxCopy =>
    exact nextIs_undocumented (((opXcb.rotMem _ _).mapCpu fun c => control_setReg c _ _).skip 4)
  | rld | rrd => exact nextIs_next (((((op2.skipRead _).internal _ 4).memWrite _ _).setAF _ _).skip 2)
  | bitBR => exact nextIs_next ((op2.setF _).skip 2)
  | bitBMHl => exact nextIs_next (((op2.probe _).bitMem _ _).skip 2)
  | bitBMIx => exact nextIs_next (((opXcb.probe _).bitMem _ _).skip 4)
  | bitBMIxDup => exact nextIs_undocumented (((opXcb.probe _).bitMem _ _).skip 4)
  | resBR | setBR => exact nextIs_next ((op2.mapCpu fun c => control_setReg c _ _).skip 2)
  | resBMHl | setBMHl => exact nextIs_next ((op2.modify _ _).skip 2)
  | resBMIx | setBMIx => exact nextIs_next ((opXcb.modify _ _).skip 4)
  | resBMIxCopy | setBMIxCopy =>
    exact nextIs_undocumented (((opXcb.modify _ _).mapCpu fun c => control_setReg c _ _).skip 4)
  -- control transfer
  | nop => exact nextIs_next (op.skip 1)
  | nopEd7 | noni => exact nextIs_undocumented (op2.skip 2)
  | jpHl => exact nextIs_next (op.setPc _)
  | jpIi => exact nextIs_next (op2.setPc _)
  | jpNn => exact nextIs_next (opNn.setPc _)
  | jpCNn => exact nextIs_next ((opNn.setPc _).ite (opNn.skip 3))
  | jr => exact nextIs_next (opN.takeRel _ _)
  | jrC => exact nextIs_next ((opN.takeRel _ _).ite (opN.skip 2))
  | djnz =>
    have counted := ((op.internalIr 1).skipRead (s.cpu.pc + 1)).mapCpu (f := fun c => { c with b := s.cpu.b - 1 })
      fun _ => rfl
    exact nextIs_next ((counted.skip 2).ite (counted.takeRel _ _))
  | callNn => exact nextIs_next ((opNn.internal _ 1).call _ _)
  | callCNn => exact nextIs_next (((opNn.internal _ 1).call _ _).ite (opNn.skip 3))
  | rst => exact nextIs_next ((op.internalIr 1).call _ _)
  | ret => exact nextIs_next op.returnTo
  | retC => exact nextIs_next ((op.internalIr 1).returnTo.ite ((op.internalIr 1).skip 1))
  -- input and output
  | inAN => exact nextIs_next (((opN.ioRead _).setA _).skip 2)
  | inRC => exact nextIs_next ((((op2.ioRead _).setF _).mapCpu fun c => control_setReg c _ _).skip 2)
  | inFC => exact nextIs_undocumented (((op2.ioRead _).setF _).skip 2)
  | outNA => exact nextIs_next ((opN.ioWrite _ _).skip 2)
  | outCR => exact nextIs_next ((op2.ioWrite _ _).skip 2)
  | outC0 => exact nextIs_undocumented ((op2.ioWrite _ _).skip 2)
  -- block instructions
  | ldi | ldd => exact nextIs_next ((copied _).copyEnd _)
  | ldir | lddr => exact nextIs_next (((copied _).copyRepeat _).ite ((copied _).copyEnd _))
  | cpi | cpd => exact nextIs_next ((searched _).searchEnd _)
  | cpir | cpdr => exact nextIs_next (((searched _).searchRepeat _ _).ite ((searched _).searchEnd _))
  | ini | ind => exact nextIs_next ((input _).blockIoEnd _ _)
  | inir | indr => exact nextIs_next (((input _).blockIoEnd _ _).ite ((input _).blockIoRepeat _ _ _))
  | outi | outd => exact nextIs_next ((output _).blockIoEnd _ _)
  | otir | otdr => exact nextIs_next (((output _).blockIoEnd _ _).ite ((output _).blockIoRepeat _ _ _))
  -- a WD1793 command reaches no register of the Z80
  | wdRestore | wdSeek | wdStep | wdStepIn | wdStepOut | wdReadSector | wdWriteSector | wdReadAddress | wdReadTrack
  | wdWriteTrack | wdForceInterrupt => exact nextIs_next rfl

/-- Settles O26: the control state after an instruction, part by part. -/
theorem controlStateChanges : Obligations.ControlStateChanges := by
  intro i s t ht
  have after : t.cpu.control = controlAfter i s.cpu := hasControl_exec i s t ht
  refine ⟨congrArg Control.iff1 after, congrArg Control.iff2 after, congrArg Control.im after,
    congrArg Control.halted after, congrArg Control.eiBlock after, congrArg Control.nmiPending after,
    congrArg Control.i after, ?_, nextR_toNat⟩
  simp only [← refreshed_eq]
  exact congrArg Control.r after

end Sys2Proof.Machine
end

section
/-! The frame executor's steps at a boundary (44 R461, R463 to R465, R470; 45 R522; 60 R740, R750). -/

namespace Sys2Proof.Machine

/-! ## A step with no host action due -/

section
variable {s : State}

/-- An admitted machine with no host action due takes a turn of the frame loop, or ends the frame. -/
theorem step_of_no_action (admitted : cfgAdmitted s.cfg = true)
    (noAction : s.frameBoundary = false ∨ s.hostQueue = []) :
    step s = if s.clock.tstates < (archConfig s.cfg).tFrame then loopStep s.inFrame else .next (endOfFrame s) := by
  unfold step
  rw [admitted, Bool.not_true, if_neg Bool.false_ne_true]
  split
  · next hb hq => simp [hb, hq] at noAction
  · rfl

theorem loopStep_of_nmi (nmi : s.cpu.nmiPending = true) : loopStep s = .next (acceptNmi s) := if_pos nmi

theorem loopStep_of_int (noNmi : s.cpu.nmiPending = false) (int : acceptsInt s = true) :
    loopStep s = .next (acceptInt s) := by
  rw [loopStep, noNmi, int, if_neg Bool.false_ne_true, if_pos rfl]

theorem loopStep_of_no_interrupt (noNmi : s.cpu.nmiPending = false) (noInt : acceptsInt s = false) :
    loopStep s = if s.cpu.halted then .next (haltedStep s) else instructionStep s := by
  rw [loopStep, noNmi, noInt, if_neg Bool.false_ne_true, if_neg Bool.false_ne_true]

theorem instructionStep_of_decode {i : Instr} {rest : List Byte} (decoded : decode (peekBytes s) = .ok (i, rest)) :
    instructionStep s = exec i s.clearEiBlock := by
  rw [instructionStep, decoded]

end

/-- Settles O4: with nothing that goes before it, the step is the instruction's. -/
theorem stepRunsDecodedInstruction : Obligations.StepRunsDecodedInstruction := by
  intro s i rest admitted noAction inTime noNmi noInt running decoded
  rw [step_of_no_action admitted noAction, if_pos inTime, loopStep_of_no_interrupt (s := s.inFrame) noNmi noInt]
  exact (if_neg (Bool.eq_false_iff.mp running)).trans (instructionStep_of_decode decoded)

/-! ## The order at a boundary -/

theorem acceptsInt_iff (s : State) : acceptsInt s = true ↔
    s.clock.tstates < (archConfig s.cfg).intLen ∧ s.cpu.iff1 = true ∧ s.cpu.eiBlock = false := by
  simp only [acceptsInt, intActive, Bool.and_eq_true, decide_eq_true_eq, Bool.not_eq_true', and_assoc]

theorem acceptsInt_of_eiBlock {s : State} (h : s.cpu.eiBlock = true) : acceptsInt s = false := by
  rw [acceptsInt, h, Bool.not_true, Bool.and_false]

/-- EI and an ignored DD or FD byte leave `eiBlock` set. -/
theorem acceptsInt_after_block {s t : State} {x : Idx}
    (h : exec .ei s = .next t ∨ exec (.ignoredPrefix x) s = .next t) : acceptsInt t = false := by
  refine acceptsInt_of_eiBlock ?_
  obtain h | h := h
  · exact congrArg Control.eiBlock (hasControl_exec .ei s t h)
  · exact congrArg Control.eiBlock (hasControl_exec (.ignoredPrefix x) s t h)

/-- Settles O7: the branches of a turn of the frame loop, in their order. -/
theorem boundaryPriority : Obligations.BoundaryPriority := by
  refine ⟨fun s admitted noAction inTime => ?_, acceptsInt_iff, fun _ _ _ h => acceptsInt_after_block h⟩
  rw [step_of_no_action admitted noAction, if_pos inTime]
  refine ⟨loopStep_of_nmi (s := s.inFrame), loopStep_of_int (s := s.inFrame), fun noNmi noInt halted => ?_⟩
  exact (loopStep_of_no_interrupt (s := s.inFrame) noNmi noInt).trans (if_pos halted)

/-! ## The halted step -/

theorem fetch_tstates (a : Word) (s : State) : (fetch a s).clock.tstates = s.clock.tstates + 4
    + if contendedAt s.cfg (fetchPaging s.cfg s.paging a) a then delayAt s.cfg s.clock.tstates else 0 :=
  chargeCycle_tstates a 4 { s with paging := fetchPaging s.cfg s.paging a }

/-- Of the registers a fetch reads R alone. -/
theorem fetch_hide (a : Word) (c : Cpu) (n : Nat) (s : State) :
    fetch a (s.hide c n) = (fetch a s).hide { c with r := nextR c.r } n :=
  congrArg bumpR (chargeCycle_hide a 4 c n { s with paging := fetchPaging s.cfg s.paging a })

/-- `eiBlock` plays no part in a fetch, so it may as well be cleared after it. -/
theorem haltedStep_eq (s : State) : haltedStep s = (fetch s.cpu.pc s).clearEiBlock := by
  have cleared : s.clearEiBlock = s.hide { s.cpu with eiBlock := false } s.drawCount := rfl
  rw [haltedStep, cleared, fetch_hide, State.clearEiBlock, fetch_cpu]
  simp [State.hide]

/-- Settles O8: a halted step is a fetch at PC, PC not moved past it. -/
theorem haltedStepFetchesAndIgnores : Obligations.HaltedStepFetchesAndIgnores := by
  intro s
  rw [haltedStep_eq]
  exact ⟨(((ran_start s).fetch s.cpu.pc).mapCpu fun c => { c with eiBlock := false }).regsOnly,
    fetch_tstates s.cpu.pc s⟩

/-! ## The end of a frame -/

/-- T_FRAME is a whole number of lines wherever the spec gives the table. -/
theorem rasterLines_eq {c : Cfg} (h : c.arch ≠ .tk) :
    (archConfig c).tFrame = rasterLines c * (archConfig c).tLine
      ∧ rasterLines c = (match c.arch with | .spec48 => 312 | .pentagon => 320 | _ => 311) := by
  cases harch : c.arch with
  | tk => exact absurd harch h
  | spec48 | spec128 | pentagon | plus2A3 => simp [rasterLines, archConfig, harch]

/-- The flash counter counts to 15 and wraps, and the phase changes as it wraps (45 R522). -/
theorem ula_nextFrame_eq (u : Ula) : u.nextFrame =
    { u with flashCount := BitVec.ofNat 4 (u.flashCount.toNat + 1),
             flashPhase := if u.flashCount.toNat = 15 then !u.flashPhase else u.flashPhase } := by
  have count : u.flashCount + 1 = BitVec.ofNat 4 (u.flashCount.toNat + 1) := by
    rw [BitVec.ofNat_add, BitVec.ofNat_toNat, BitVec.setWidth_eq]
    rfl
  have wraps : u.flashCount + 1 = 0 ↔ u.flashCount.toNat = 15 := by
    generalize u.flashCount = n
    revert n
    decide
  simp only [Ula.nextFrame, wraps]
  rw [count]

/-- Settles O10: T_FRAME line by line, and the end of a frame field by field. -/
theorem endOfFrameBookkeeping : Obligations.EndOfFrameBookkeeping := by
  refine ⟨fun c h => rasterLines_eq h, fun s admitted noAction ended => ?_⟩
  rw [step_of_no_action admitted noAction, if_neg (Nat.not_lt.mpr ended), endOfFrame, ula_nextFrame_eq]
  rfl

end Sys2Proof.Machine
end

section
/-! The host's actions at a frame boundary (44 R480, R481; 46 R554; 47 R610 to R612, R670 to R672; 48 R712 to R715;
70 R780). -/

namespace Sys2Proof.Machine

/-! ## A list of bytes written onto an empty memory -/

theorem lastListed_concat (cells : List Host.Cell) (c : Host.Cell) (o : Nat) :
    lastListed (cells ++ [c]) o = if o = c.1 then c.2 else lastListed cells o := by
  by_cases h : c.1 = o
  · simp [lastListed, h]
  · simp [lastListed, h, Ne.symm h]

/-- A later byte overwrites an earlier one. -/
theorem memGet_memSetAll (cells : List Host.Cell) (o : Nat) : memGet (memSetAll [] cells) o = lastListed cells o := by
  induction cells using List.reverseRecOn with
  | nil => rfl
  | append_singleton cells c ih =>
    have last : memSetAll [] (cells ++ [c]) = memSet (memSetAll [] cells) c.1 c.2 := List.foldl_concat _ _ _ _
    rw [last, memGet_memSet _ (memSetAll_wf _ _ rfl), lastListed_concat, ih]

/-- The bytes listed from `n` on dropped, as a host's image and a snapshot's RAM are cut to size. -/
theorem lastListed_filter_lt (cells : List Host.Cell) (n o : Nat) :
    lastListed (cells.filter fun c => decide (c.1 < n)) o = if o < n then lastListed cells o else 0x00 := by
  have both (c : Host.Cell) : (decide (c.1 = o) && decide (c.1 < n)) = (decide (o < n) && decide (c.1 = o)) := by
    rw [Bool.eq_iff_iff, Bool.and_eq_true, Bool.and_eq_true]
    simp only [decide_eq_true_eq]
    omega
  unfold lastListed
  rw [List.filter_filter]
  simp only [both]
  by_cases h : o < n <;> simp [h]

theorem memGet_memSetAll_filter_lt (cells : List Host.Cell) (n o : Nat) :
    memGet (memSetAll [] (cells.filter fun c => decide (c.1 < n))) o = if o < n then lastListed cells o else 0x00 := by
  rw [memGet_memSetAll, lastListed_filter_lt]

theorem image_normal_byte {img : Image} {o : Nat} (h : o < img.size) :
    img.normal.byte o = lastListed img.cells o := by
  have inside : o < img.normal.size := h
  rw [Image.byte, if_pos inside]
  exact (memGet_memSetAll_filter_lt img.cells img.size o).trans (if_pos h)

/-! ## Disks -/

theorem isScl_iff (img : Image) : isScl img = true ↔ SclImage img := by
  simp only [isScl, sclMagic, SclImage, Bool.and_eq_true, decide_eq_true_eq, beq_iff_eq]

theorem sclValid_iff (img : Image) : sclValid img = true
    ↔ (img.byte 8).toNat ≤ 128 ∧ 9 + 14 * (img.byte 8).toNat ≤ img.size := by
  rw [sclValid, Bool.and_eq_true, decide_eq_true_iff, decide_eq_true_iff]
  rfl

/-- The type bytes 0x16 to 0x19 (47 R610). -/
theorem trdGeometry_eq : ∀ ty : Byte, trdGeometry ty =
    if 0x16 ≤ ty.toNat ∧ ty.toNat ≤ 0x19 then
      some (if ty.toNat = 0x16 ∨ ty.toNat = 0x18 then 80 else 40,
        if ty.toNat = 0x16 ∨ ty.toNat = 0x17 then 2 else 1)
    else none := by
  decide

theorem mountImage_eq (img : Image) (wp : Bool) (head : Nat) :
    mountImage img wp head = mounted img.normal wp head := by
  unfold mountImage mounted
  generalize img.normal = img
  by_cases scl : SclImage img
  · rw [if_pos ((isScl_iff img).mpr scl), if_pos scl]
    exact if_congr (sclValid_iff img) rfl rfl
  · rw [if_neg (mt (isScl_iff img).mp scl), if_neg scl]
    have offset : trdTypeOffset = 2275 := rfl
    rw [offset, trdGeometry_eq]
    by_cases short : img.size ≤ 2275
    · rw [if_pos short, if_neg (by omega)]
    · rw [if_neg short]
      by_cases typed : 0x16 ≤ (img.byte 2275).toNat ∧ (img.byte 2275).toNat ≤ 0x19
      · have valid : 2276 ≤ img.size ∧ 0x16 ≤ (img.byte 2275).toNat ∧ (img.byte 2275).toNat ≤ 0x19 :=
          ⟨Nat.lt_of_not_le short, typed⟩
        rw [if_pos typed, if_pos valid]
        dsimp only
        rw [Nat.mul_assoc _ 16 256]
      · rw [if_neg typed, if_neg fun h => typed h.2]

section
variable {c : Cfg} {now : Nat} {u : Fin 4} {img : Image} {wp : Bool} {d : Disk}

theorem diskInsert_of_invalid (h : mounted img.normal wp (d.catchUp c now).drives[u].headTrack = none) :
    d.insert c now u (some img) wp = (d, false) := by
  rw [Disk.insert, Option.bind_some, mountImage_eq, h]

theorem diskInsert_of_mounted {dr : Drive}
    (h : mounted img.normal wp (d.catchUp c now).drives[u].headTrack = some dr) :
    d.insert c now u (some img) wp =
      let e := d.catchUp c now
      let wakes := e.wd.unit = u ∧ e.drives[u].available = false ∧ e.wd.intCond.getLsbD 0 = true
      ({ drives := e.drives.set u dr, wd := { e.wd with intrq := e.wd.intrq || decide wakes } }, true) := by
  rw [Disk.insert, Option.bind_some, mountImage_eq, h]
  simp only [Bool.decide_and, Bool.decide_eq_false, Bool.decide_eq_true, Bool.and_assoc, beq_eq_decide]

end

theorem diskEject_eq (c : Cfg) (now : Nat) (u : Fin 4) (d : Disk) :
    d.eject c now u =
      let e := d.catchUp c now
      let intrq := e.wd.intrq || (e.drives[u].available && e.wd.intCond.getLsbD 1)
      { drives := e.drives.set u { Drive.empty with headTrack := e.drives[u].headTrack },
        wd :=
          if e.wd.unit ≠ u then e.wd
          else if e.wd.state = .idle then { e.wd with intrq := intrq }
          else { e.wd with intrq := intrq, statusReg := e.wd.statusReg &&& 0xFE, state := .idle,
                           drq := false } } := by
  unfold Disk.eject
  dsimp only
  by_cases selected : (d.catchUp c now).wd.unit = u
  · by_cases idle : (d.catchUp c now).wd.state = .idle
    · rw [if_pos selected, if_neg (not_not.mpr selected), if_neg (not_not.mpr idle), if_pos idle]
    · rw [if_pos selected, if_neg (not_not.mpr selected), if_pos idle, if_neg idle]
  · rw [if_neg selected, if_pos selected]

/-! ## Tape -/

theorem tapeStop_eq (c : Cfg) (now : Nat) (t : Tape) : t.stop c now = rewound t.image now := by
  rw [← tapeCatchUp_image c now t]
  rfl

theorem tapePlay_eq (c : Cfg) (now : Nat) (t : Tape) : t.play c now =
    if (t.catchUp c now).status = .stopped ∧ t.image ≠ none then
      { t.catchUp c now with status := .loading, earBit := false }.beginBlock now (t.catchUp c now).pos now
    else t.catchUp c now := by
  unfold Tape.play
  dsimp only
  rw [tapeCatchUp_image]

/-! ## The AY registers of a snapshot -/

theorem atLeastOne_eq (p : BitVec 16) : atLeastOne p = BitVec.ofNat 16 (max p.toNat 1) := by
  by_cases h : p = 0
  · simp [atLeastOne, h]
  · have positive : 1 ≤ p.toNat := Nat.one_le_iff_ne_zero.mpr (BitVec.toNat_ne.mp h)
    rw [atLeastOne, if_neg h, Nat.max_eq_left positive, BitVec.ofNat_toNat, BitVec.setWidth_eq]

theorem ayMask_eq_getD : ∀ i : Fin 14, ayMask i.val =
    [0xFF, 0x0F, 0xFF, 0x0F, 0xFF, 0x0F, 0x1F, 0xFF, 0x1F, 0x1F, 0x1F, 0xFF, 0xFF, 0x0F].getD i.val 0 := by
  decide

section
variable {i : Nat} (v : Byte) (ay : Ay)

theorem aySetReg_regs (h : i < 14) : (ay.setReg i v).regs = ay.regs.set i (v &&& ayMask i) := by
  unfold Ay.setReg
  rw [dif_pos h]
  dsimp only
  split <;> rfl

/-- Below register 13 a write changes the register alone. -/
theorem aySetReg_of_lt (h : i < 13) : ay.setReg i v = { ay with regs := (ay.setReg i v).regs } := by
  have other : i ≠ 13 := by omega
  unfold Ay.setReg
  rw [dif_pos (by omega)]
  dsimp only
  rw [if_neg other]

/-- A write of register 13 restarts the envelope, its counter at the period of registers 11 and 12. -/
theorem aySetReg_13 : ay.setReg 13 v =
    { ay with
      regs := (ay.setReg 13 v).regs, envPos := 0, envHeld := false,
      envCnt := BitVec.ofNat 16 (max (ay.regs[11].toNat + 256 * ay.regs[12].toNat) 1) } := by
  have period : ({ ay with regs := ay.regs.set 13 (v &&& ayMask 13) } : Ay).envPeriod.toNat
      = ay.regs[11].toNat + 256 * ay.regs[12].toNat := by
    simp [Ay.envPeriod, Ay.reg, Nat.add_comm]
  rw [aySetReg_regs v ay (by decide), ← period, ← atLeastOne_eq]
  rfl

end

/-- The first `n` AY registers of a snapshot written, from 0 up. -/
def Ay.loadTo (regs : Vector Byte 14) (n : Nat) (ay : Ay) : Ay :=
  (List.range n).foldl (fun ay i => ay.setReg i (if h : i < 14 then regs[i] else 0)) ay

section
variable (regs : Vector Byte 14) (ay : Ay)

theorem ayLoad_eq_loadTo : ay.load regs = ay.loadTo regs 14 := rfl

theorem ayLoadTo_succ {n : Nat} (h : n < 14) : ay.loadTo regs (n + 1) = (ay.loadTo regs n).setReg n regs[n] := by
  rw [Ay.loadTo, List.range_succ, List.foldl_concat, dif_pos h]
  rfl

theorem ayLoadTo_regs {n : Nat} (h : n ≤ 14) (i : Fin 14) : (ay.loadTo regs n).regs[i] =
    if i.val < n then regs[i] &&& ayMask i.val else ay.regs[i] := by
  induction n with
  | zero => rfl
  | succ n ih =>
    rw [ayLoadTo_succ regs ay h, aySetReg_regs _ _ h]
    simp only [Fin.getElem_fin, Vector.getElem_set] at ih ⊢
    by_cases here : n = i.val
    · subst here
      simp
    · rw [if_neg here, ih (by omega)]
      simp only [show i.val < n + 1 ↔ i.val < n by omega]

theorem ayLoadTo_of_le {n : Nat} (h : n ≤ 13) : ay.loadTo regs n = { ay with regs := (ay.loadTo regs n).regs } := by
  induction n with
  | zero => rfl
  | succ n ih =>
    rw [ayLoadTo_succ regs ay (by omega), aySetReg_of_lt _ _ h, ih (by omega)]

theorem ayLoad_regs (i : Fin 14) : (ay.load regs).regs[i] = regs[i] &&& ayMask i.val :=
  (ayLoadTo_regs regs ay le_rfl i).trans (if_pos i.isLt)

/-- The fourteen registers set, and the envelope restarted. -/
theorem ayLoad_eq : ay.load regs =
    { ay with
      regs := (ay.load regs).regs, envPos := 0, envHeld := false,
      envCnt := BitVec.ofNat 16 (max (regs[11].toNat + 256 * regs[12].toNat) 1) } := by
  have full (b : Byte) : b &&& 0xFF = b := BitVec.and_allOnes
  have r11 : (ay.loadTo regs 13).regs[11] = regs[11] := (ayLoadTo_regs regs ay (by decide) 11).trans (full _)
  have r12 : (ay.loadTo regs 13).regs[12] = regs[12] := (ayLoadTo_regs regs ay (by decide) 12).trans (full _)
  rw [ayLoad_eq_loadTo, ayLoadTo_succ regs ay (by decide), aySetReg_13, r11, r12, ayLoadTo_of_le regs ay (by decide)]

end

/-! ## Snapshots -/

theorem consistent_iff (c : Cfg) (snap : Snapshot) : snap.consistent c = true ↔
    snap.pc < 65536 ∧ snap.sp < 65536 ∧ snap.im ≤ 2 ∧ snap.port7FFD < 256
      ∧ ∀ n ∈ snap.tstates, n < (archConfig c).tFrame := by
  unfold Snapshot.consistent
  cases snap.tstates <;> simp [and_assoc]

theorem imOfNat_eq_getD : ∀ n ≤ 2, imOfNat n = [IntMode.im0, .im1, .im2].getD n .im0 := by decide

theorem snapshotCpu_eq {snap : Snapshot} (h : snap.im ≤ 2) : snap.toCpu =
    { snap.cpu with
      pc := BitVec.ofNat 16 snap.pc, sp := BitVec.ofNat 16 snap.sp,
      im := [IntMode.im0, .im1, .im2].getD snap.im .im0, halted := false, eiBlock := false,
      nmiPending := false } := by
  rw [Snapshot.toCpu, imOfNat_eq_getD _ h]

theorem loadSnapshot_ay_of_none {s : State} {snap : Snapshot}
    (h : (archConfig s.cfg).hasAy = false ∨ snap.ayRegs = none) : (loadSnapshot snap s).ay = s.ay := by
  unfold loadSnapshot
  dsimp only
  obtain noAy | noRegs := h
  · split
    · rw [noAy, if_neg Bool.false_ne_true]
    · rfl
  · rw [noRegs]

theorem loadSnapshot_ay_of_some {s : State} {snap : Snapshot} {regs : Vector Byte 14}
    (hasAy : (archConfig s.cfg).hasAy = true) (listed : snap.ayRegs = some regs) :
    (loadSnapshot snap s).ay = s.ay.load regs := by
  unfold loadSnapshot
  dsimp only
  rw [listed]
  exact if_pos hasAy

/-! ## The actions -/

/-- The step takes its action off the queue; the action itself leaves the queue as it is. -/
theorem applyAction_hostQueue (a : HostAction) (s : State) : (applyAction a s).hostQueue = s.hostQueue := by
  unfold applyAction
  cases a with
  | frameStep | setKeys _ | pulseNmi | tapeInsert _ | tapePlay | tapeStop | reset => rfl
  | setKempston _ | insertDisk _ _ _ | ejectDisk _ | loadSnapshot _ =>
    dsimp only
    split <;> rfl

theorem step_of_action {s : State} {a : HostAction} {rest : List HostAction} (admitted : cfgAdmitted s.cfg = true)
    (boundary : s.frameBoundary = true) (queued : s.hostQueue = a :: rest) :
    step s = .next (applyAction a { s with hostQueue := rest }) := by
  unfold step
  rw [admitted, boundary, queued]
  rfl

section
variable (s : State) (u : Fin 4)

theorem applyAction_insertDisk (image : Option Image) (wp : Bool) :
    applyAction (.insertDisk u.val image wp) s =
      ({ s with disk := (s.disk.insert s.cfg s.clock.absTime u image wp).1 } : State).noteOk
        (s.disk.insert s.cfg s.clock.absTime u image wp).2 := dif_pos u.isLt

theorem applyAction_ejectDisk : applyAction (.ejectDisk u.val) s =
    ({ s with disk := s.disk.eject s.cfg s.clock.absTime u } : State).noteOk true := dif_pos u.isLt

end

/-- Settles O60: each action's step, from what the disk side, the tape, the AY and the memories make of it. -/
theorem hostActions : Obligations.HostActions := by
  intro s a rest admitted boundary queued
  obtain ⟨romKept, cfgKept⟩ := applyAction_rom_cfg a { s with hostQueue := rest }
  refine ⟨_, step_of_action admitted boundary queued, applyAction_hostQueue a _, romKept, cfgKept, ?frameStep,
    ?setKeys, ?setKempston, ?pulseNmi, ?noDisk, ?insertDisk, fun img o => ⟨rfl, image_normal_byte⟩, ?noUnit, ?ejectDisk,
    ?noTape, ?tapeInsert, ?tapePlay, ?tapeStop, ?loadSnapshot, ?reset⟩
  case frameStep | pulseNmi | noTape => all_goals rintro rfl; rfl
  case setKeys =>
    rintro m rfl
    rfl
  case setKempston =>
    rintro b rfl
    rfl
  case noDisk =>
    rintro u image wp rfl missing
    by_cases unit : u < 4
    · obtain rfl := missing.resolve_left (Nat.not_le.mpr unit)
      exact dif_pos unit
    · exact dif_neg unit
  case insertDisk =>
    rintro u img wp rfl
    rw [applyAction_insertDisk]
    dsimp only
    split
    · next invalid => rw [diskInsert_of_invalid invalid]; rfl
    · next mounts => rw [diskInsert_of_mounted mounts]; rfl
  case noUnit =>
    rintro u rfl past
    exact dif_neg (Nat.not_lt.mpr past)
  case ejectDisk =>
    rintro u rfl
    rw [applyAction_ejectDisk, diskEject_eq]
    rfl
  case tapeInsert =>
    rintro img rfl
    rfl
  case tapePlay =>
    rintro rfl
    rw [applyAction, tapePlay_eq]
    rfl
  case tapeStop =>
    rintro rfl
    rw [applyAction, tapeStop_eq]
    rfl
  case loadSnapshot =>
    rintro snap rfl
    refine ⟨consistent_iff s.cfg snap, fun inconsistent => if_neg (Bool.eq_false_iff.mp inconsistent),
      fun consistent => ?_⟩
    obtain ⟨-, -, im, -, -⟩ := (consistent_iff s.cfg snap).mp consistent
    have loaded : applyAction (.loadSnapshot snap) { s with hostQueue := rest }
        = (loadSnapshot snap { s with hostQueue := rest }).noteOk true := if_pos consistent
    rw [loaded, ← snapshotCpu_eq im]
    refine ⟨rfl, memGet_memSetAll_filter_lt snap.ram ramSize, loadSnapshot_ay_of_none, fun regs hasAy listed => ?_⟩
    have written : ((loadSnapshot snap { s with hostQueue := rest }).noteOk true).ay = s.ay.load regs :=
      loadSnapshot_ay_of_some hasAy listed
    rw [written]
    exact ⟨fun i => ayMask_eq_getD i ▸ ayLoad_regs regs s.ay i, ayLoad_eq regs s.ay⟩
  case reset =>
    rintro rfl
    exact ⟨rfl, fun u => Vector.getElem_map _ _⟩

end Sys2Proof.Machine
end

section
/-! The raster's picture (45 R510 to R519): the half-column and the T-state a pixel is painted at, its colour then,
and what a unit, a T-state and a span of T-states paint. -/

namespace Sys2Proof.Machine

/-! ## When and how a pixel is painted -/

/-- The pixel lies on the screen, not on the border (45 R511). -/
abbrev Raster.onScreen (r : Raster) (x y : Nat) : Prop :=
  r.geo.top ≤ y ∧ y < r.geo.top + 192 ∧ r.geo.left ≤ x ∧ x < r.geo.left + 256

/-- The half-column whose T-state paints pixel (x, y): the first of its group of 8 on the screen, its own on the
border (45 R511). -/
def Raster.halfColumn (r : Raster) (x y : Nat) : Nat :=
  if r.onScreen x y then r.geo.left / 2 + 4 * ((x - r.geo.left) / 8) else x / 2

theorem halfColumn_of_onScreen {r : Raster} {x y : Nat} (h : r.onScreen x y) :
    r.halfColumn x y = r.geo.left / 2 + 4 * ((x - r.geo.left) / 8) := if_pos h

/-- The T-state that paints pixel (x, y) (45 R511). -/
def Raster.paintTime (r : Raster) (x y : Nat) : Nat :=
  r.screenStart + (y * r.tLine + r.halfColumn x y) - (r.geo.top * r.tLine + r.geo.left / 2)

/-- The colour of pixel (x, y) from what the raster reads (45 R513, R514). -/
def Raster.colourAt (r : Raster) (inp : RasterInput) (x y : Nat) : BitVec 4 :=
  if r.onScreen x y then
    pixelColour (bitmapByte inp.ram inp.bank (y - r.geo.top) ((x - r.geo.left) / 8))
      (attrByte inp.ram inp.bank (y - r.geo.top) ((x - r.geo.left) / 8)) inp.flash ((x - r.geo.left) % 8)
  else 0#1 ++ inp.border

/-- What the specified rasters share: rows of whole half-columns that hold the screen's 256 columns, lines no
shorter than a row, and no unit before T-state 0 (45 R510, R511). -/
structure Raster.Regular (r : Raster) : Prop where
  left_even : 2 ∣ r.geo.left
  width_even : 2 ∣ r.geo.width
  screen_fits : r.geo.left + 256 ≤ r.geo.width
  row_fits : r.geo.width / 2 ≤ r.tLine
  starts_late : r.geo.top * r.tLine + r.geo.left / 2 ≤ r.screenStart

theorem archConfig_raster_bounds {c : Cfg} (h : c.arch ≠ .tk) :
    224 ≤ (archConfig c).tLine ∧ (archConfig c).tLine ≤ 228 ∧ 14336 ≤ (archConfig c).screenStart := by
  unfold archConfig
  split <;> simp_all

theorem rasterOf_regular {c : Cfg} (h : c.arch ≠ .tk) : (rasterOf c).Regular := by
  obtain ⟨shortest, longest, start⟩ := archConfig_raster_bounds h
  cases mode : c.resMode <;> constructor <;> simp only [rasterOf, geometry, mode] <;> omega

/-! ## A run of pixels -/

/-- The colour of the pixel at an index, where one is painted. -/
abbrev Framebuffer.cell (fb : Framebuffer) (i : Nat) : Option (BitVec 4) := cellsGet none fb.painted i

theorem pixel_eq_cell_getD (fb : Framebuffer) (i : Nat) :
    fb.pixel i = (fb.cell i).getD (Config.drawPixel fb.drawn i) := rfl

/-- Pixels `x` to `x + n - 1` of row `y` painted, the `i`-th in `colour i`. -/
def paintRun (r : Raster) (x y n : Nat) (colour : Nat → BitVec 4) (fb : Framebuffer) : Framebuffer :=
  (List.range n).foldl (fun fb i => paintPixel r fb (x + i) y (colour i)) fb

theorem paintRun_succ (r : Raster) (x y n : Nat) (colour : Nat → BitVec 4) (fb : Framebuffer) :
    paintRun r x y (n + 1) colour fb = paintPixel r (paintRun r x y n colour fb) (x + n) y (colour n) := by
  simp [paintRun, List.range_succ]

theorem paintRun_wf (r : Raster) (x y n : Nat) (colour : Nat → BitVec 4) {fb : Framebuffer} (hfb : fb.wf) :
    (paintRun r x y n colour fb).wf :=
  List.foldlRecOn _ _ hfb fun _ hfb _ _ => paintPixel_wf hfb r _ y _

/-- A unit is a run: the 8 pixels of a group at its first T-state, or 2 border pixels. -/
theorem paintUnit_eq_paintRun (r : Raster) (inp : RasterInput) (y h : Nat) (fb : Framebuffer) :
    paintUnit r inp y h fb =
      if r.onScreen (2 * h) y then
        if (2 * h - r.geo.left) % 8 = 0 then
          paintRun r (2 * h) y 8 (pixelColour
            (bitmapByte inp.ram inp.bank (y - r.geo.top) ((2 * h - r.geo.left) / 8))
            (attrByte inp.ram inp.bank (y - r.geo.top) ((2 * h - r.geo.left) / 8)) inp.flash) fb
        else fb
      else paintRun r (2 * h) y 2 (fun _ => 0#1 ++ inp.border) fb := by
  simp only [paintUnit, Bool.and_eq_true, decide_eq_true_eq, and_assoc]
  rfl

/-! ## The painted pixels after each stage -/

section
variable {r : Raster} {inp : RasterInput} {fb : Framebuffer} {x y : Nat}

theorem pixelIndex_inj {x₀ y₀ : Nat} (hx : x < r.geo.width) (hx₀ : x₀ < r.geo.width) :
    y * r.geo.width + x = y₀ * r.geo.width + x₀ ↔ y = y₀ ∧ x = x₀ := by
  refine ⟨fun same => ?_, by rintro ⟨rfl, rfl⟩; rfl⟩
  obtain ⟨row, col⟩ := line_col_div_mod y hx
  obtain ⟨row₀, col₀⟩ := line_col_div_mod y₀ hx₀
  rw [same] at row col
  exact ⟨row.symm.trans row₀, col.symm.trans col₀⟩

theorem cell_paintPixel (hfb : fb.wf) {x₀ : Nat} (y₀ : Nat) (v : BitVec 4) (hx : x < r.geo.width)
    (hx₀ : x₀ < r.geo.width) : (paintPixel r fb x₀ y₀ v).cell (y * r.geo.width + x) =
      if y = y₀ ∧ x = x₀ then some v else fb.cell (y * r.geo.width + x) := by
  rw [Framebuffer.cell, paintPixel, cellsGet_cellsSet none fb.painted hfb]
  simp only [pixelIndex_inj hx hx₀]

theorem cell_paintRun (hfb : fb.wf) (x₀ y₀ n : Nat) (colour : Nat → BitVec 4) (hx : x < r.geo.width)
    (fits : x₀ + n ≤ r.geo.width) : (paintRun r x₀ y₀ n colour fb).cell (y * r.geo.width + x) =
      if y = y₀ ∧ x₀ ≤ x ∧ x < x₀ + n then some (colour (x - x₀)) else fb.cell (y * r.geo.width + x) := by
  induction n with
  | zero => rw [if_neg (by omega)]; rfl
  | succ n ih =>
    rw [paintRun_succ, cell_paintPixel (paintRun_wf r x₀ y₀ n colour hfb) y₀ _ hx (by omega), ih (by omega)]
    by_cases last : x = x₀ + n
    · simp [last]
    · simp only [last, and_false, if_false]
      congr 1
      simp only [eq_iff_iff]
      omega

theorem halfColumn_lt (reg : r.Regular) (hx : x < r.geo.width) : r.halfColumn x y < r.geo.width / 2 := by
  obtain ⟨left_even, width_even, screen_fits, -, -⟩ := reg
  unfold Raster.halfColumn
  split <;> omega

/-- A pixel and the one its unit starts at are both on the screen or both on the border. -/
theorem onScreen_halfColumn (reg : r.Regular) : r.onScreen (2 * r.halfColumn x y) y ↔ r.onScreen x y := by
  have left_even := reg.left_even
  unfold Raster.halfColumn
  split <;> omega

/-- A unit paints the pixels of its half-column in their colours. -/
theorem cell_paintUnit (reg : r.Regular) (hfb : fb.wf) {y₀ h : Nat} (hx : x < r.geo.width)
    (hh : h < r.geo.width / 2) : (paintUnit r inp y₀ h fb).cell (y * r.geo.width + x) =
      if y = y₀ ∧ h = r.halfColumn x y then some (r.colourAt inp x y)
      else fb.cell (y * r.geo.width + x) := by
  have ⟨left_even, width_even, screen_fits, _, _⟩ := reg
  rw [paintUnit_eq_paintRun]
  split
  case isTrue screen =>
    split
    case isTrue first =>
      rw [cell_paintRun hfb _ _ _ _ hx (by omega)]
      refine ite_congr (propext (and_congr_right ?_)) ?_ fun _ => rfl
      · rintro rfl
        unfold Raster.halfColumn
        split <;> omega
      · rintro ⟨rfl, rfl⟩
        have inside : r.onScreen x y := (onScreen_halfColumn reg).mp screen
        have column := halfColumn_of_onScreen inside
        have group : (2 * r.halfColumn x y - r.geo.left) / 8 = (x - r.geo.left) / 8 := by omega
        have bit : x - 2 * r.halfColumn x y = (x - r.geo.left) % 8 := by omega
        rw [Raster.colourAt, if_pos inside, group, bit]
    case isFalse later =>
      rw [if_neg]
      rintro ⟨rfl, rfl⟩
      have column := halfColumn_of_onScreen ((onScreen_halfColumn reg).mp screen)
      omega
  case isFalse border =>
    rw [cell_paintRun hfb _ _ _ _ hx (by omega)]
    refine ite_congr (propext (and_congr_right ?_)) ?_ fun _ => rfl
    · rintro rfl
      unfold Raster.halfColumn
      split <;> omega
    · rintro ⟨rfl, rfl⟩
      rw [Raster.colourAt, if_neg (border ∘ (onScreen_halfColumn reg).mpr)]

/-- A T-state lies in one row at most, as a line is no shorter than a row. -/
theorem rowsAt_eq (reg : r.Regular) (w : Nat) :
    rowsAt r w = if w / r.tLine < r.geo.height ∧ w % r.tLine < r.geo.width / 2 then [w / r.tLine] else [] := by
  obtain ⟨-, -, screen_fits, row_fits, -⟩ := reg
  have one : (r.geo.width / 2 - 1) / r.tLine + 1 = 1 := by
    rw [Nat.div_eq_of_lt (by omega)]
  rw [rowsAt, if_neg (by omega), one]
  by_cases row : w / r.tLine < r.geo.height ∧ w % r.tLine < r.geo.width / 2 <;>
    simp [← Nat.mod_eq_sub_div_mul, row]

theorem rasterCount_eq_some_iff (reg : r.Regular) (u : Nat) :
    rasterCount r u = some (y * r.tLine + r.halfColumn x y) ↔ u = r.paintTime x y := by
  have late := reg.starts_late
  unfold rasterCount Raster.paintTime
  split
  · simp only [reduceCtorEq, false_iff]
    omega
  · rw [Option.some_inj]
    omega

/-- A T-state paints the pixels whose time it is. -/
theorem cell_paintAt (reg : r.Regular) (hfb : fb.wf) (u : Nat) (hx : x < r.geo.width) (hy : y < r.geo.height) :
    (paintAt r inp u fb).cell (y * r.geo.width + x) =
      if u = r.paintTime x y then some (r.colourAt inp x y) else fb.cell (y * r.geo.width + x) := by
  have column := halfColumn_lt (y := y) reg hx
  have position (w : Nat) : w = y * r.tLine + r.halfColumn x y ↔
      y = w / r.tLine ∧ w % r.tLine = r.halfColumn x y := by
    refine ⟨?_, ?_⟩
    · rintro rfl
      exact (line_col_div_mod y (column.trans_le reg.row_fits)).imp Eq.symm id
    · rintro ⟨rfl, col⟩
      rw [← col, Nat.div_add_mod']
  simp only [← rasterCount_eq_some_iff reg]
  unfold paintAt
  cases rasterCount r u with
  | none => simp
  | some w =>
    simp only [Option.some_inj, position, rowsAt_eq reg]
    split
    case isTrue inRow =>
      rw [List.foldl_cons, List.foldl_nil, ← Nat.mod_eq_sub_div_mul]
      exact cell_paintUnit reg hfb hx inRow.2
    case isFalse outside =>
      rw [List.foldl_nil, if_neg]
      rintro ⟨rfl, col⟩
      exact outside ⟨hy, col ▸ column⟩

theorem paintSpan_succ (t₀ k : Nat) :
    paintSpan r inp t₀ (k + 1) fb = paintAt r inp (t₀ + k) (paintSpan r inp t₀ k fb) := by
  simp [paintSpan, List.range_succ]

/-- A span of T-states paints the pixels whose time it holds. -/
theorem cell_paintSpan (reg : r.Regular) (hfb : fb.wf) (t₀ k : Nat) (hx : x < r.geo.width)
    (hy : y < r.geo.height) : (paintSpan r inp t₀ k fb).cell (y * r.geo.width + x) =
      if t₀ ≤ r.paintTime x y ∧ r.paintTime x y < t₀ + k then some (r.colourAt inp x y)
      else fb.cell (y * r.geo.width + x) := by
  induction k with
  | zero => rw [if_neg (by omega)]; rfl
  | succ k ih =>
    rw [paintSpan_succ, cell_paintAt reg (paintSpan_wf r inp t₀ k hfb) _ hx hy, ih, ← ite_or]
    congr 1
    simp only [eq_iff_iff]
    omega

end

/-! ## The drawn picture stays -/

theorem paintUnit_drawn (r : Raster) (inp : RasterInput) (y h : Nat) (fb : Framebuffer) :
    (paintUnit r inp y h fb).drawn = fb.drawn := by
  rw [paintUnit_eq_paintRun]
  split
  · split <;> rfl
  · rfl

theorem paintAt_drawn (r : Raster) (inp : RasterInput) (u : Nat) (fb : Framebuffer) :
    (paintAt r inp u fb).drawn = fb.drawn := by
  unfold paintAt
  split
  · rfl
  · exact List.foldlRecOn (motive := fun b => b.drawn = fb.drawn) _ _ rfl fun b hb y _ =>
      (paintUnit_drawn r inp y _ b).trans hb

theorem paintSpan_drawn (r : Raster) (inp : RasterInput) (t₀ k : Nat) (fb : Framebuffer) :
    (paintSpan r inp t₀ k fb).drawn = fb.drawn :=
  List.foldlRecOn (motive := fun b => b.drawn = fb.drawn) _ _ rfl fun b hb _ _ =>
    (paintAt_drawn r inp _ b).trans hb

/-! ## The raster of a state -/

theorem unitTime_eq_paintTime {c : Cfg} (h : c.arch ≠ .tk) (x y : Nat) :
    unitTime c x y = (rasterOf c).paintTime x y := by
  obtain ⟨left_even, -, -, -, late⟩ := rasterOf_regular h
  have screen : (0 ≤ (y : Int) - (rasterOf c).geo.top ∧ (y : Int) - (rasterOf c).geo.top < 192
      ∧ 0 ≤ (x : Int) - (rasterOf c).geo.left ∧ (x : Int) - (rasterOf c).geo.left < 256)
      ↔ (rasterOf c).onScreen x y := by omega
  have lines : ((y : Int) - (rasterOf c).geo.top) * (rasterOf c).tLine
      = (y * (rasterOf c).tLine : Nat) - ((rasterOf c).geo.top * (rasterOf c).tLine : Nat) := by
    push_cast
    exact sub_mul _ _ _
  have unit : unitTime c x y = if (rasterOf c).onScreen x y then
        (rasterOf c).screenStart + ((y : Int) - (rasterOf c).geo.top) * (rasterOf c).tLine
          + 4 * (((x : Int) - (rasterOf c).geo.left) / 8)
      else (rasterOf c).screenStart + ((y : Int) - (rasterOf c).geo.top) * (rasterOf c).tLine
          + ((x : Int) - (rasterOf c).geo.left) / 2 :=
    if_congr screen rfl (congrArg _ (Int.fdiv_eq_ediv_of_nonneg _ (by decide)))
  rw [unit, lines, Raster.paintTime, Raster.halfColumn]
  split <;> omega

/-- A bright bit over three colour bits, as a number. -/
theorem ofBool_append_eq_ofNat :
    ∀ (bright : Bool) (v : BitVec 3), BitVec.ofBool bright ++ v = BitVec.ofNat 4 (v.toNat + 8 * bright.toNat) := by
  decide

/-- The flash phase inverts the pixels of a flashing cell. -/
theorem xor_flash_eq_ite :
    ∀ bit attr flash : Bool, (bit ^^ (attr && flash)) = if attr = true ∧ flash = true then !bit else bit := by
  decide

theorem pixelColour_eq (b a : Byte) (flash : Bool) (i : Nat) : pixelColour b a flash i =
    BitVec.ofNat 4
      ((if (if a.getLsbD 7 = true ∧ flash = true then !b.getLsbD (7 - i) else b.getLsbD (7 - i))
        then a.toNat % 8 else a.toNat / 8 % 8) + 8 * (a.toNat / 64 % 2)) := by
  have bright : (a.getLsbD 6).toNat = a.toNat / 64 % 2 := Nat.toNat_testBit a.toNat 6
  rw [pixelColour, ofBool_append_eq_ofNat, bright, xor_flash_eq_ite, apply_ite BitVec.toNat,
    BitVec.extractLsb'_toNat, BitVec.extractLsb'_toNat, Nat.shiftRight_zero, Nat.shiftRight_eq_div_pow]

theorem pixelShows_eq_colourAt (s : State) (x y : Nat) :
    pixelShows s x y = (rasterOf s.cfg).colourAt s.rasterInput x y := by
  rw [Raster.colourAt, pixelColour_eq]
  exact if_congr Iff.rfl rfl (ofBool_append_eq_ofNat false s.ula.borderColour).symm

/-- Settles O49: the span's pixels by their times, over the drawn picture. -/
theorem advancePaintsItsSpan : Obligations.AdvancePaintsItsSpan := by
  intro s k x y specified wf hx hy at_ t inSpan
  have drawn : t.framebuffer.drawn = s.framebuffer.drawn := paintSpan_drawn _ _ _ _ _
  have painted : t.framebuffer.cell at_ =
      if inSpan then some (pixelShows s x y) else s.framebuffer.cell at_ := by
    have span : inSpan ↔ s.clock.tstates ≤ (rasterOf s.cfg).paintTime x y
        ∧ (rasterOf s.cfg).paintTime x y < s.clock.tstates + k := by
      simp only [inSpan, unitTime_eq_paintTime specified]
      omega
    simp only [span, pixelShows_eq_colourAt]
    exact cell_paintSpan (rasterOf_regular specified) wf _ _ hx hy
  refine ⟨?_, painted, drawn, pixel_of_unpainted⟩
  rw [pixel_eq_cell_getD, painted, drawn]
  split <;> rfl

end Sys2Proof.Machine
end

section
/-! The counters of a chip step (46 R555, R561): a part of it changes its own fields alone, and each counter is
counted down to 1 and then reloaded. -/

namespace Sys2Proof.Machine

/-! ## What a step keeps, and what it counts down, over many steps -/

theorem iterate_keeps {σ β : Type} {f : σ → σ} {obs : σ → β} (keeps : ∀ a, obs (f a) = obs a) (n : Nat)
    (a : σ) : obs (f^[n] a) = obs a :=
  congrFun (Function.iterate_invariant (funext keeps) n) a

/-- A counter that each step counts down while `obs` stays: `obs` stays for as many steps as it counts, and the step
that reloads it begins with the counter at 1 or 0. -/
theorem countdown {σ β : Type} (f : σ → σ) (cnt : σ → Nat) (obs : σ → β)
    (counts : ∀ a, 1 < cnt a → cnt (f a) + 1 = cnt a ∧ obs (f a) = obs a) (a : σ) :
    (∀ k, k < max (cnt a) 1 → obs (f^[k] a) = obs a)
      ∧ ∃ b, f^[max (cnt a) 1] a = f b ∧ cnt b ≤ 1 ∧ obs b = obs a := by
  have before (k : Nat) (hk : k < max (cnt a) 1) : cnt (f^[k] a) + k = cnt a ∧ obs (f^[k] a) = obs a := by
    induction k with
    | zero => exact ⟨rfl, rfl⟩
    | succ k ih =>
      obtain ⟨left, same⟩ := ih (by omega)
      obtain ⟨next, kept⟩ := counts (f^[k] a) (by omega)
      rw [Function.iterate_succ_apply']
      exact ⟨by omega, kept.trans same⟩
  obtain ⟨left, same⟩ := before (max (cnt a) 1 - 1) (by omega)
  refine ⟨fun k hk => (before k hk).2, f^[max (cnt a) 1 - 1] a, ?_, by omega, same⟩
  rw [← Function.iterate_succ_apply' f, Nat.succ_eq_add_one, Nat.sub_add_cancel (le_max_right _ 1)]

/-! ## A part of a chip step changes its own fields -/

section
variable (ay : Ay)

theorem toneStep_frame (c : Fin 3) : ay.toneStep c =
    { ay with toneCnt := (ay.toneStep c).toneCnt, toneBit := (ay.toneStep c).toneBit } := by
  unfold Ay.toneStep
  split <;> rfl

theorem noiseStep_frame : ay.noiseStep =
    { ay with noiseCnt := ay.noiseStep.noiseCnt, lfsr := ay.noiseStep.lfsr,
              noiseBit := ay.noiseStep.noiseBit } := by
  unfold Ay.noiseStep
  split <;> rfl

theorem envAdvance_frame : ay.envAdvance =
    { ay with envPos := ay.envAdvance.envPos, envHeld := ay.envAdvance.envHeld } := by
  unfold Ay.envAdvance
  (repeat' split) <;> rfl

theorem envAdvance_envCnt : ay.envAdvance.envCnt = ay.envCnt := by
  rw [envAdvance_frame]

theorem envStep_frame : ay.envStep =
    { ay with envCnt := ay.envStep.envCnt, envPos := ay.envStep.envPos, envHeld := ay.envStep.envHeld } := by
  unfold Ay.envStep
  split
  · rw [envAdvance_frame]
  · rfl

theorem chipStep_frame : ay.chipStep =
    { ay with toneCnt := ay.chipStep.toneCnt, toneBit := ay.chipStep.toneBit,
              noiseCnt := ay.chipStep.noiseCnt, lfsr := ay.chipStep.lfsr,
              noiseBit := ay.chipStep.noiseBit, envCnt := ay.chipStep.envCnt,
              envPos := ay.chipStep.envPos, envHeld := ay.chipStep.envHeld } := by
  unfold Ay.chipStep
  rw [envStep_frame, noiseStep_frame, toneStep_frame _ 2, toneStep_frame _ 1, toneStep_frame ay 0]

end

theorem reg_of_lt (ay : Ay) (i : Fin 14) : ay.reg i.val = ay.regs[i] := dif_pos i.isLt

section
variable {a b : Ay}

theorem reg_congr (regs : a.regs = b.regs) (i : Nat) : a.reg i = b.reg i := by
  unfold Ay.reg
  rw [regs]

theorem tonePeriod_congr (regs : a.regs = b.regs) (c : Nat) : a.tonePeriod c = b.tonePeriod c := by
  unfold Ay.tonePeriod
  rw [reg_congr regs, reg_congr regs]

end

/-! ## The tone channels -/

theorem toneStep_toneCnt (c d : Fin 3) (ay : Ay) : (ay.toneStep c).toneCnt[d] =
    if c = d then (if ay.toneCnt[d] ≤ 1 then atLeastOne (ay.tonePeriod d.val) else ay.toneCnt[d] - 1)
    else ay.toneCnt[d] := by
  unfold Ay.toneStep
  by_cases same : c = d
  · subst same
    rw [if_pos rfl]
    split <;> exact Vector.getElem_set_self c.isLt
  · rw [if_neg same]
    split <;> exact Vector.getElem_set_ne c.isLt d.isLt (Fin.val_ne_of_ne same)

theorem toneStep_toneBit (c d : Fin 3) (ay : Ay) : (ay.toneStep c).toneBit[d] =
    if c = d ∧ ay.toneCnt[d] ≤ 1 then !ay.toneBit[d] else ay.toneBit[d] := by
  unfold Ay.toneStep
  by_cases same : c = d
  · subst same
    split
    · next low => simpa using low
    · next high => simpa using high
  · simp only [same, false_and, if_false]
    split
    · exact Vector.getElem_set_ne c.isLt d.isLt (Fin.val_ne_of_ne same)
    · rfl

/-- The other channels' parts and the noise and envelope parts leave a channel as its own part does. -/
theorem chipStep_tone (d : Fin 3) (ay : Ay) :
    ay.chipStep.toneCnt[d] = (ay.toneStep d).toneCnt[d]
      ∧ ay.chipStep.toneBit[d] = (ay.toneStep d).toneBit[d] := by
  have period (c : Fin 3) (k : Nat) (a : Ay) : (a.toneStep c).tonePeriod k = a.tonePeriod k :=
    tonePeriod_congr (toneStep_regs c a) k
  unfold Ay.chipStep
  rw [envStep_frame, noiseStep_frame]
  simp only [toneStep_toneCnt, toneStep_toneBit, period]
  fin_cases d <;> simp

theorem atLeastOne_toNat (p : BitVec 16) : (atLeastOne p).toNat = max p.toNat 1 := by
  rw [atLeastOne_eq, BitVec.toNat_ofNat]
  have bound := p.isLt
  omega

/-- The counter of a channel, which is counted down while the channel's bit and the registers stay. -/
theorem chipStep_tone_counts (c : Fin 3) (ay : Ay) (h : 1 < ay.toneCnt[c].toNat) :
    ay.chipStep.toneCnt[c].toNat + 1 = ay.toneCnt[c].toNat
      ∧ (ay.chipStep.toneBit[c], ay.chipStep.regs) = (ay.toneBit[c], ay.regs) := by
  obtain ⟨cnt, bit⟩ := chipStep_tone c ay
  have high : ¬ ay.toneCnt[c] ≤ 1 := by bv_omega
  rw [cnt, bit, toneStep_toneCnt, toneStep_toneBit, chipStep_regs, if_pos rfl, if_neg high,
    if_neg (fun h => high h.2)]
  exact ⟨by bv_omega, rfl⟩

theorem chipStep_tone_reloads (c : Fin 3) (ay : Ay) (h : ay.toneCnt[c].toNat ≤ 1) :
    ay.chipStep.toneCnt[c].toNat = max (ay.tonePeriod c.val).toNat 1
      ∧ ay.chipStep.toneBit[c] = !ay.toneBit[c] := by
  obtain ⟨cnt, bit⟩ := chipStep_tone c ay
  have low : ay.toneCnt[c] ≤ 1 := h
  rw [cnt, bit, toneStep_toneCnt, toneStep_toneBit, if_pos rfl, if_pos low, if_pos ⟨rfl, low⟩,
    atLeastOne_toNat]
  exact ⟨rfl, rfl⟩

/-! ## The noise -/

theorem chipStep_noise (ay : Ay) : ay.chipStep.noiseCnt = ay.noiseStep.noiseCnt
    ∧ ay.chipStep.lfsr = ay.noiseStep.lfsr ∧ ay.chipStep.noiseBit = ay.noiseStep.noiseBit := by
  unfold Ay.chipStep
  rw [envStep_frame, toneStep_frame _ 2, toneStep_frame _ 1, toneStep_frame ay 0]
  unfold Ay.noiseStep
  dsimp only
  split <;> exact ⟨rfl, rfl, rfl⟩

theorem chipStep_noise_counts (ay : Ay) (h : 1 < ay.noiseCnt) :
    ay.chipStep.noiseCnt + 1 = ay.noiseCnt
      ∧ (ay.chipStep.lfsr, ay.chipStep.noiseBit, ay.chipStep.regs) = (ay.lfsr, ay.noiseBit, ay.regs) := by
  obtain ⟨cnt, lfsr, bit⟩ := chipStep_noise ay
  rw [cnt, lfsr, bit, chipStep_regs, Ay.noiseStep, if_neg (Nat.not_le.mpr h)]
  exact ⟨Nat.sub_add_cancel h.le, rfl⟩

theorem chipStep_noise_reloads (ay : Ay) (h : ay.noiseCnt ≤ 1) :
    ay.chipStep.noiseCnt = 2 * max ay.regs[6].toNat 1
      ∧ ay.chipStep.lfsr = lfsrNext ay.lfsr ∧ ay.chipStep.noiseBit = (lfsrNext ay.lfsr).getLsbD 0 := by
  obtain ⟨cnt, lfsr, bit⟩ := chipStep_noise ay
  rw [cnt, lfsr, bit, Ay.noiseStep, if_pos h]
  exact ⟨rfl, rfl, rfl⟩

/-! ## The envelope -/

/-- Where the envelope stands. -/
def Ay.envAt (ay : Ay) : BitVec 6 × Bool := (ay.envPos, ay.envHeld)

theorem envAdvance_congr {a b : Ay} (stands : a.envAt = b.envAt) (regs : a.regs = b.regs) :
    a.envAdvance.envAt = b.envAdvance.envAt := by
  have shape : a.shape = b.shape := congrArg BitVec.toNat (reg_congr regs 13)
  obtain ⟨pos, held⟩ := Prod.mk.inj stands
  unfold Ay.envAdvance
  rw [pos, held, shape]
  (repeat' split) <;> simp only [Ay.envAt, pos, held]

theorem chipStep_env (ay : Ay) : ay.chipStep.envCnt = ay.envStep.envCnt
    ∧ ay.chipStep.envAt = ay.envStep.envAt := by
  unfold Ay.chipStep
  rw [noiseStep_frame, toneStep_frame _ 2, toneStep_frame _ 1, toneStep_frame ay 0]
  unfold Ay.envStep
  dsimp only
  split
  · exact ⟨by rw [envAdvance_envCnt, envAdvance_envCnt]; rfl, envAdvance_congr rfl rfl⟩
  · exact ⟨rfl, rfl⟩

theorem chipStep_env_counts (ay : Ay) (h : 1 < ay.envCnt.toNat) :
    ay.chipStep.envCnt.toNat + 1 = ay.envCnt.toNat
      ∧ (ay.chipStep.envAt, ay.chipStep.regs) = (ay.envAt, ay.regs) := by
  obtain ⟨cnt, stands⟩ := chipStep_env ay
  have high : ¬ ay.envCnt ≤ 1 := by bv_omega
  rw [cnt, stands, chipStep_regs, Ay.envStep, if_neg high]
  exact ⟨by bv_omega, rfl⟩

theorem chipStep_env_reloads (ay : Ay) (h : ay.envCnt.toNat ≤ 1) :
    ay.chipStep.envCnt.toNat = max ay.envPeriod.toNat 1 ∧ ay.chipStep.envAt = ay.envAdvance.envAt := by
  obtain ⟨cnt, stands⟩ := chipStep_env ay
  have low : ay.envCnt ≤ 1 := h
  rw [cnt, stands, Ay.envStep, if_pos low, envAdvance_envCnt]
  exact ⟨atLeastOne_toNat _, envAdvance_congr rfl rfl⟩

/-- Settles O51: each counter runs out after as many chip steps as it counts, and is reloaded by the next. -/
theorem ayTonePeriod : Obligations.AyTonePeriod := by
  refine ⟨fun ay c => ?tone, fun ay => ?noise, fun ay => ?env, chipStep_frame, reg_of_lt⟩
  case tone =>
    obtain ⟨kept, b, last, low, same⟩ := countdown Ay.chipStep (fun a => a.toneCnt[c].toNat)
      (fun a => (a.toneBit[c], a.regs)) (chipStep_tone_counts c) ay
    obtain ⟨bit, regs⟩ := Prod.mk.inj same
    obtain ⟨cnt, toggled⟩ := chipStep_tone_reloads c b low
    refine ⟨fun k hk => congrArg Prod.fst (kept k hk), ?_, ?_⟩
    · rw [last, toggled, bit]
    · rw [last, cnt, tonePeriod_congr regs, Ay.tonePeriod, mkWord_toNat, Nat.add_comm (_ * _)]
  case noise =>
    obtain ⟨kept, b, last, low, same⟩ := countdown Ay.chipStep Ay.noiseCnt
      (fun a => (a.lfsr, a.noiseBit, a.regs)) chipStep_noise_counts ay
    obtain ⟨lfsr, others⟩ := Prod.mk.inj same
    obtain ⟨-, regs⟩ := Prod.mk.inj others
    obtain ⟨cnt, shifted, out⟩ := chipStep_noise_reloads b low
    refine ⟨fun k hk => ⟨congrArg Prod.fst (kept k hk), congrArg (·.2.1) (kept k hk)⟩, ?_⟩
    rw [last, cnt, shifted, out, lfsr, regs]
    exact ⟨rfl, rfl, rfl⟩
  case env =>
    obtain ⟨kept, b, last, low, same⟩ := countdown Ay.chipStep (fun a => a.envCnt.toNat)
      (fun a => (a.envAt, a.regs)) chipStep_env_counts ay
    obtain ⟨stands, regs⟩ := Prod.mk.inj same
    obtain ⟨cnt, advanced⟩ := chipStep_env_reloads b low
    refine ⟨fun k hk => congrArg Prod.fst (kept k hk), ?_, ?_⟩
    · rw [last]
      exact advanced.trans (envAdvance_congr stands regs)
    · rw [last, cnt, Ay.envPeriod, mkWord_toNat, reg_congr regs, reg_congr regs, Nat.add_comm (_ * _)]
      rfl

end Sys2Proof.Machine
end

section
/-! The envelope's position and level (46 R565 to R567). -/

namespace Sys2Proof.Machine

/-! ## An advance, by where the envelope stands -/

section
variable {ay : Ay}

theorem envAdvance_of_held (held : ay.envHeld = true) : ay.envAdvance = ay := if_pos held

section
variable (moving : ay.envHeld = false)
include moving

theorem envAdvance_of_lt (h : ay.envPos.toNat < 63) :
    ay.envAdvance = { ay with envPos := ay.envPos + 1 } := by
  rw [Ay.envAdvance, if_neg (Bool.eq_false_iff.mp moving), if_pos h]

theorem envAdvance_of_last (h : ay.envPos.toNat = 63) : ay.envAdvance =
    if envWraps ay.shape = true then { ay with envPos := 0 } else { ay with envHeld := true } := by
  rw [Ay.envAdvance, if_neg (Bool.eq_false_iff.mp moving), if_neg (by omega)]

end

theorem envPos_succ_toNat {p : BitVec 6} (h : p.toNat < 63) : (p + 1).toNat = p.toNat + 1 :=
  BitVec.toNat_add_of_lt (y := 1) (by simpa using Nat.add_lt_add_right h 1)

end

/-! ## From its start -/

theorem envAdvance_shape (ay : Ay) : ay.envAdvance.shape = ay.shape :=
  congrArg BitVec.toNat (reg_congr (envAdvance_regs ay) 13)

theorem envAdvance_iterate_shape (n : Nat) (ay : Ay) : (Ay.envAdvance^[n] ay).shape = ay.shape :=
  iterate_keeps envAdvance_shape n ay

section
variable {ay : Ay} (pos : ay.envPos = 0) (held : ay.envHeld = false) (n : Nat)
include pos held

/-- A shape that wraps goes round in 64 advances and is never held. -/
theorem envAdvance_iterate_of_wraps (wraps : envWraps ay.shape = true) :
    (Ay.envAdvance^[n] ay).envPos.toNat = n % 64 ∧ (Ay.envAdvance^[n] ay).envHeld = false := by
  induction n with
  | zero => exact ⟨congrArg BitVec.toNat pos, held⟩
  | succ n ih =>
    obtain ⟨posAt, moving⟩ := ih
    rw [Function.iterate_succ_apply']
    by_cases last : (Ay.envAdvance^[n] ay).envPos.toNat < 63
    · rw [envAdvance_of_lt moving last]
      dsimp only
      rw [envPos_succ_toNat last]
      exact ⟨by omega, moving⟩
    · have atLast : (Ay.envAdvance^[n] ay).envPos.toNat = 63 := by omega
      rw [envAdvance_of_last moving atLast, envAdvance_iterate_shape, if_pos wraps]
      exact ⟨(show 0 = (n + 1) % 64 by omega), moving⟩

/-- A shape that does not wrap is held at 63 by its 64th advance. -/
theorem envAdvance_iterate_of_holds (holds : ¬ envWraps ay.shape = true) :
    (Ay.envAdvance^[n] ay).envPos.toNat = min n 63 ∧ (Ay.envAdvance^[n] ay).envHeld = decide (64 ≤ n) := by
  induction n with
  | zero => exact ⟨congrArg BitVec.toNat pos, held⟩
  | succ n ih =>
    obtain ⟨posAt, heldAt⟩ := ih
    rw [Function.iterate_succ_apply']
    by_cases past : 64 ≤ n
    · rw [envAdvance_of_held (by simpa [past] using heldAt), posAt, heldAt]
      exact ⟨by omega, decide_eq_decide.mpr (by omega)⟩
    · have moving : (Ay.envAdvance^[n] ay).envHeld = false := by simpa [past] using heldAt
      by_cases last : n < 63
      · have before : (Ay.envAdvance^[n] ay).envPos.toNat < 63 := by omega
        rw [envAdvance_of_lt moving before]
        dsimp only
        rw [envPos_succ_toNat before, moving]
        exact ⟨by omega, (decide_eq_false (by omega)).symm⟩
      · have atLast : (Ay.envAdvance^[n] ay).envPos.toNat = 63 := by omega
        rw [envAdvance_of_last moving atLast, envAdvance_iterate_shape, if_neg holds]
        exact ⟨atLast.trans (by omega), (decide_eq_true (by omega)).symm⟩

end

theorem envWraps_iff (shape : Nat) : envWraps shape = true ↔ shape ∈ [8, 10, 12, 14] := by
  simp [envWraps, or_assoc]

/-! ## The levels -/

theorem envLevel_eq {shape : Nat} (h : shape < 16) (p : Nat) : envLevel shape p =
    if p < 32 then (if shape / 4 % 2 = 1 then p else 31 - p)
    else if shape = 8 ∨ shape = 14 then 63 - p
    else if shape = 10 ∨ shape = 12 then p - 32
    else if shape = 11 ∨ shape = 13 then 31
    else 0 := by
  by_cases first : p < 32 <;> interval_cases shape <;> simp [envLevel, first]

theorem envLevel_le {shape p : Nat} (h : shape < 16) (hp : p < 64) : envLevel shape p ≤ 31 := by
  rw [envLevel_eq h]
  (repeat' split) <;> omega

/-- Settles O52: the advances by what the shape does at 63, the levels shape by shape. -/
theorem envelopeWrapsOrHolds : Obligations.EnvelopeWrapsOrHolds := by
  refine ⟨fun ay n pos held => ?_, fun _ _ h hp => envLevel_le h hp, fun _ p h _ => envLevel_eq h p, rfl, rfl,
    by decide⟩
  dsimp only
  split
  · next wraps => exact envAdvance_iterate_of_wraps pos held n ((envWraps_iff _).mpr wraps)
  · next holds => exact envAdvance_iterate_of_holds pos held n (mt (envWraps_iff _).mp holds)

end Sys2Proof.Machine
end

section
/-! The sample stream (46 R560, R570 to R572, R580 to R582): the bound on a sum of amplitudes, what a sample is, and
which samples a catch-up and the end of a frame make. -/

namespace Sys2Proof.Machine

/-! ## The bound on a sum of amplitudes -/

theorem nonDecreasing_getD_le_getLastD {l : List Nat} (h : nonDecreasing l = true) (i : Nat) :
    l.getD i 0 ≤ l.getLastD 0 := by
  induction l generalizing i with
  | nil => exact Nat.zero_le 0
  | cons a l ih =>
    cases l with
    | nil => cases i <;> simp
    | cons b t =>
      simp only [nonDecreasing, Bool.and_eq_true, decide_eq_true_eq] at h
      obtain ⟨le, rest⟩ := h
      cases i with
      | zero => exact le.trans (ih rest 0)
      | succ i => exact ih rest i

section
variable {vols : List Nat} (ok : volTableOk vols = true)
include ok

/-- Three amplitudes fit in a byte: 3 · 85 = 255. -/
theorem volTable_getD_le (i : Nat) : vols.getD i 0 ≤ 85 := by
  simp only [volTableOk, Bool.and_eq_true, decide_eq_true_eq] at ok
  obtain ⟨⟨-, rising⟩, last⟩ := ok
  have top := nonDecreasing_getD_le_getLastD rising i
  omega

theorem ampOf_le (ay : Ay) (c : Fin 3) : ampOf vols ay c ≤ 85 := by
  unfold ampOf
  dsimp only
  split
  · exact volTable_getD_le ok _
  · exact Nat.zero_le 85

theorem ampSum_le (ay : Ay) (n : Nat) : ampSum vols ay n ≤ 255 * n := by
  induction n generalizing ay with
  | zero => exact Nat.zero_le 0
  | succ n ih =>
    rw [ampSum_succ]
    have rest := ih ay.chipStep
    have a0 := ampOf_le ok ay.chipStep 0
    have a1 := ampOf_le ok ay.chipStep 1
    have a2 := ampOf_le ok ay.chipStep 2
    omega

end

/-! ## A sample -/

theorem chipStep_pcm (ay : Ay) : ay.chipStep.pcm = ay.pcm := by
  rw [chipStep_frame]

theorem chipStep_sampleIndex (ay : Ay) : ay.chipStep.sampleIndex = ay.sampleIndex := by
  rw [chipStep_frame]

theorem chipStep_selected (ay : Ay) : ay.chipStep.selected = ay.selected := by
  rw [chipStep_frame]

theorem genSample_eq (c : Cfg) (ay : Ay) : ay.genSample c =
    { Ay.chipStep^[chipTacts c] ay with
      pcm := ay.pcm ++ [byteOf (ampSum c.volTable ay (chipTacts c) / chipTacts c)],
      sampleIndex := ay.sampleIndex + 1 } := by
  unfold Ay.genSample
  rw [accumulate_eq]
  dsimp only
  rw [Nat.zero_add, iterate_keeps chipStep_pcm, iterate_keeps chipStep_sampleIndex]

theorem genSample_sampleIndex (c : Cfg) (ay : Ay) : (ay.genSample c).sampleIndex = ay.sampleIndex + 1 := by
  rw [genSample_eq]

theorem genSample_regs (c : Cfg) (ay : Ay) : (ay.genSample c).regs = ay.regs := by
  rw [genSample_eq]
  exact chipStep_iterate_regs ay _

theorem genSample_selected (c : Cfg) (ay : Ay) : (ay.genSample c).selected = ay.selected := by
  rw [genSample_eq]
  exact iterate_keeps chipStep_selected _ ay

/-- Samples are added behind those already made, one each. -/
theorem genSample_iterate_pcm (c : Cfg) (n : Nat) (ay : Ay) :
    ∃ made, ((Ay.genSample c)^[n] ay).pcm = ay.pcm ++ made ∧ made.length = n := by
  induction n with
  | zero => exact ⟨[], (List.append_nil _).symm, rfl⟩
  | succ n ih =>
    obtain ⟨made, appended, length⟩ := ih
    rw [Function.iterate_succ_apply', genSample_eq]
    exact ⟨made ++ [_], by rw [appended, List.append_assoc], by rw [List.length_append, length]; rfl⟩

/-! ## Catching up -/

/-- Sample `i` is one of the frame's and its time lies before `t` (46 R580, R581). -/
def DueBefore (c : Cfg) (t i : Nat) : Prop := i < samplesPerFrame c ∧ sampleDue c i < t

/-- With fuel for the frame's samples left, those due before `t` are made and no other. -/
theorem samplesTo_eq (c : Cfg) (t fuel : Nat) (ay : Ay) (enough : samplesPerFrame c ≤ ay.sampleIndex + fuel) :
    ∃ n, Ay.samplesTo c t fuel ay = (Ay.genSample c)^[n] ay
      ∧ (∀ k, k < n → DueBefore c t (ay.sampleIndex + k)) ∧ ¬ DueBefore c t (ay.sampleIndex + n) := by
  induction fuel generalizing ay with
  | zero => exact ⟨0, rfl, fun _ h => absurd h (Nat.not_lt_zero _), fun due => Nat.not_lt.mpr enough due.1⟩
  | succ fuel ih =>
    have due_iff : (decide (ay.sampleIndex < samplesPerFrame c) && decide (sampleDue c ay.sampleIndex < t)) = true
        ↔ DueBefore c t ay.sampleIndex := by
      rw [Bool.and_eq_true, decide_eq_true_eq, decide_eq_true_eq]
      rfl
    unfold Ay.samplesTo
    split
    · next due =>
      obtain ⟨n, made, before, after⟩ := ih (ay.genSample c) (by rw [genSample_sampleIndex]; omega)
      rw [genSample_sampleIndex] at before after
      refine ⟨n + 1, made, fun k hk => ?_, Nat.add_right_comm _ 1 n ▸ after⟩
      cases k with
      | zero => exact due_iff.mp due
      | succ k => exact Nat.add_right_comm _ 1 k ▸ before k (Nat.lt_of_succ_lt_succ hk)
    · next notDue => exact ⟨0, rfl, fun _ h => absurd h (Nat.not_lt_zero _), mt due_iff.mpr notDue⟩

theorem ayCatchUp_eq (c : Cfg) (t : Nat) (ay : Ay) : ∃ n, ay.catchUp c t = (Ay.genSample c)^[n] ay
    ∧ (∀ k, k < n → DueBefore c t (ay.sampleIndex + k)) ∧ ¬ DueBefore c t (ay.sampleIndex + n) :=
  samplesTo_eq c t _ ay (Nat.le_add_left _ _)

/-! ## The end of a frame -/

theorem samplesLeft_eq (c : Cfg) (fuel : Nat) (ay : Ay) (enough : samplesPerFrame c ≤ ay.sampleIndex + fuel) :
    Ay.samplesLeft c fuel ay = (Ay.genSample c)^[samplesPerFrame c - ay.sampleIndex] ay := by
  induction fuel generalizing ay with
  | zero => rw [Nat.sub_eq_zero_of_le (show samplesPerFrame c ≤ ay.sampleIndex from enough)]; rfl
  | succ fuel ih =>
    unfold Ay.samplesLeft
    split
    · next left =>
      rw [ih _ (by rw [genSample_sampleIndex]; omega), genSample_sampleIndex, ← Function.iterate_succ_apply]
      congr 1
      omega
    · next full => rw [Nat.sub_eq_zero_of_le (Nat.not_lt.mp full)]; rfl

section
variable {c : Cfg} (ay : Ay)

theorem finishFrame_of_noAy (noAy : (archConfig c).hasAy = false) :
    ay.finishFrame c = { ay with pcmOut := List.replicate (samplesPerFrame c) 0x00 } := by
  rw [Ay.finishFrame, if_neg (Bool.eq_false_iff.mp noAy)]

theorem finishFrame_of_hasAy (hasAy : (archConfig c).hasAy = true) :
    ay.finishFrame c =
      { (Ay.genSample c)^[samplesPerFrame c - ay.sampleIndex] ay with
        pcmOut := ((Ay.genSample c)^[samplesPerFrame c - ay.sampleIndex] ay).pcm, pcm := [], sampleIndex := 0 } := by
  rw [Ay.finishFrame, if_pos hasAy, samplesLeft_eq c _ ay (Nat.le_add_left _ _)]

/-- The frame's output on a machine with an AY: the samples made so far, then those that are left. -/
theorem finishFrame_pcmOut (hasAy : (archConfig c).hasAy = true) : ∃ made,
    (ay.finishFrame c).pcmOut = ay.pcm ++ made ∧ made.length = samplesPerFrame c - ay.sampleIndex := by
  rw [finishFrame_of_hasAy ay hasAy]
  exact genSample_iterate_pcm c _ ay

theorem finishFrame_pcmOut_length (counted : ay.pcm.length = ay.sampleIndex)
    (inFrame : ay.sampleIndex ≤ samplesPerFrame c) : (ay.finishFrame c).pcmOut.length = samplesPerFrame c := by
  cases hasAy : (archConfig c).hasAy with
  | false =>
    rw [finishFrame_of_noAy ay hasAy]
    exact List.length_replicate
  | true =>
    obtain ⟨made, out, left⟩ := finishFrame_pcmOut ay hasAy
    rw [out, List.length_append, counted, left]
    omega

end

/-- Settles O53: the bound, the sample, the catch-up and the end of the frame. -/
theorem aySampleStream : Obligations.AySampleStream := by
  refine ⟨fun _ ay n ok => ampSum_le ok ay n, genSample_eq, fun c ay t => ayCatchUp_eq c t ay,
    fun c ay => ⟨finishFrame_of_noAy ay, fun hasAy => ⟨finishFrame_of_hasAy ay hasAy, ?_⟩,
      finishFrame_pcmOut_length ay⟩⟩
  obtain ⟨made, out, -⟩ := finishFrame_pcmOut ay hasAy
  exact ⟨made, out.symm⟩

end Sys2Proof.Machine
end

section
/-! The AY registers through the ports (46 R550 to R556). -/

namespace Sys2Proof.Machine

/-! ## A catch-up keeps the registers -/

theorem ayCatchUp_regs (c : Cfg) (t : Nat) (ay : Ay) : (ay.catchUp c t).regs = ay.regs := by
  obtain ⟨n, made, -⟩ := ayCatchUp_eq c t ay
  rw [made, iterate_keeps (genSample_regs c)]

theorem ayCatchUp_selected (c : Cfg) (t : Nat) (ay : Ay) : (ay.catchUp c t).selected = ay.selected := by
  obtain ⟨n, made, -⟩ := ayCatchUp_eq c t ay
  rw [made, iterate_keeps (genSample_selected c)]

/-! ## A register write -/

theorem aySetReg_of_ge {i : Nat} (h : ¬ i < 14) (v : Byte) (ay : Ay) : ay.setReg i v = ay := dif_neg h

theorem aySetReg_selected (i : Nat) (v : Byte) (ay : Ay) : (ay.setReg i v).selected = ay.selected := by
  unfold Ay.setReg
  split
  · dsimp only
    split <;> rfl
  · rfl

/-- The other registers keep their bytes. -/
theorem aySetReg_regs_ne (i : Nat) (v : Byte) (ay : Ay) (j : Fin 14) (h : j.val ≠ i) :
    (ay.setReg i v).regs[j] = ay.regs[j] := by
  by_cases named : i < 14
  · rw [aySetReg_regs v ay named]
    exact Vector.getElem_set_ne named j.isLt h.symm
  · rw [aySetReg_of_ge named]

/-- The byte written reads back masked, from an index past 13 as 0xFF. -/
theorem ayRead_setReg_selected (v : Byte) (ay : Ay) : (ay.setReg ay.selected.toNat v).read =
    if ay.selected.toNat ≤ 13 then v &&& ayMask ay.selected.toNat else 0xFF := by
  split
  · next named =>
    have lt : ay.selected.toNat < 14 := Nat.lt_succ_of_le named
    rw [ayRead_of_lt _ ⟨ay.selected.toNat, lt⟩ (by rw [aySetReg_selected]), aySetReg_regs v ay lt]
    exact Vector.getElem_set_self lt
  · next past => exact ayRead_of_gt _ (by rw [aySetReg_selected]; omega)

/-- EP fits in 16 bits, so the counter restarts at it, or at 1 for a period of 0. -/
theorem aySetReg_13_restarts (v : Byte) (ay : Ay) : (ay.setReg 13 v).envPos = 0 ∧ (ay.setReg 13 v).envHeld = false
    ∧ (ay.setReg 13 v).envCnt.toNat = max (ay.regs[11].toNat + 256 * ay.regs[12].toNat) 1 := by
  rw [aySetReg_13]
  refine ⟨rfl, rfl, ?_⟩
  rw [BitVec.toNat_ofNat]
  have fine := ay.regs[11].isLt
  have coarse := ay.regs[12].isLt
  omega

/-- A write is one to the registers the catch-up has kept. -/
theorem ayWrite_cases (c : Cfg) (t : Nat) (v : Byte) (ay : Ay) : ∃ u : Ay, u.regs = ay.regs
    ∧ u.selected = ay.selected ∧ ay.write c t v = u.setReg u.selected.toNat v :=
  ⟨ay.catchUp c t, ayCatchUp_regs c t ay, ayCatchUp_selected c t ay, by rw [Ay.write, ayCatchUp_selected]⟩

/-! ## The two ports -/

theorem not_betaTakes_ay (s : State) : ¬ betaTakes s 0xFFFD ∧ ¬ betaTakes s 0xBFFD := by
  constructor <;> exact fun ⟨_, _, port⟩ => absurd port (by decide)

section
variable {s : State} (hasAy : (archConfig s.cfg).hasAy = true)
include hasAy

theorem portWrite_aySelect (i : Byte) : portWrite 0xFFFD i s = { s with ay := s.ay.select i } := by
  rw [portWrite_other (not_betaTakes_ay s).1, portWriteUla_eq, portWritePaging_eq, portWriteAy_eq]
  simp [hasAy, Ay.select]

theorem portWrite_ayData (v : Byte) :
    portWrite 0xBFFD v s = { s with ay := s.ay.write s.cfg s.clock.tstates v } := by
  rw [portWrite_other (not_betaTakes_ay s).2, portWriteUla_eq, portWritePaging_eq, portWriteAy_eq]
  simp [hasAy]

theorem portRead_ay : portRead 0xFFFD s = (s.ay.read, s) := by
  rw [portRead_odd (not_betaTakes_ay s).1 rfl, hasAy]
  rfl

end

/-- Settles O50: the write is the catch-up, which keeps the registers and the index, then the register's byte. -/
theorem ayRegisterRoundTrip : Obligations.AyRegisterRoundTrip := by
  intro s i v hasAy t masks
  have ht : t = { s with ay := (s.ay.select i).write s.cfg s.clock.tstates v } :=
    (congrArg (portWrite 0xBFFD v) (portWrite_aySelect hasAy i)).trans (portWrite_ayData (by exact hasAy) v)
  obtain ⟨u, regs, selected, write⟩ : ∃ u : Ay, u.regs = s.ay.regs ∧ u.selected = i
      ∧ (s.ay.select i).write s.cfg s.clock.tstates v = u.setReg u.selected.toNat v :=
    ayWrite_cases s.cfg s.clock.tstates v (s.ay.select i)
  rw [write] at ht
  have read : (portRead 0xFFFD t).1 = t.ay.read := by rw [portRead_ay (by rw [ht]; exact hasAy)]
  rw [read, ht]
  refine ⟨(aySetReg_selected _ _ _).trans selected, ?_, fun j hj => ?_, fun last => ?_⟩
  · rw [ayRead_setReg_selected, selected]
    split
    · next named => rw [ayMask_eq_getD ⟨i.toNat, Nat.lt_succ_of_le named⟩]
    · rfl
  · rw [← selected] at hj
    rw [aySetReg_regs_ne _ v u j hj, regs]
  · rw [selected, last, ← regs]
    exact aySetReg_13_restarts v u

end Sys2Proof.Machine
end

section
/-! What every step keeps of the AY: the registers within their masks and the LFSR off 0 (46 R553, R561). -/

namespace Sys2Proof.Machine

/-- Every register holds only bits of its mask, and the LFSR is not 0. -/
def Ay.wf (ay : Ay) : Prop := (∀ i : Fin 14, ay.regs[i] &&& ayMask i.val = ay.regs[i]) ∧ ay.lfsr ≠ 0

theorem ayForm_iff (s : State) : AyForm s ↔ s.ay.wf := Iff.rfl

theorem Ay.wf.of_regs {a b : Ay} (h : a.wf) (regs : b.regs = a.regs) (lfsr : b.lfsr ≠ 0) : b.wf := by
  unfold Ay.wf
  rw [regs]
  exact ⟨h.1, lfsr⟩

/-! ## The LFSR -/

/-- A shift of a 1 out sets bit 16; a shift of a 0 out loses no bit. -/
theorem lfsrNext_ne_zero {l : BitVec 17} (h : l ≠ 0) : lfsrNext l ≠ 0 := by
  unfold lfsrNext
  cases low : l.getLsbD 0 with
  | true =>
    intro zero
    have top := congrArg (fun b : BitVec 17 => b.getLsbD 16) zero
    simp at top
  | false =>
    intro zero
    have shifted : l >>> 1 = 0 := by simpa using zero
    have half : l.toNat / 2 = 0 := by simpa [Nat.shiftRight_eq_div_pow] using congrArg BitVec.toNat shifted
    have even : l.toNat % 2 = 0 := by simpa [BitVec.getLsbD, Nat.testBit_zero] using low
    exact h (BitVec.eq_of_toNat_eq (show l.toNat = 0 by omega))

theorem aySetReg_lfsr (i : Nat) (v : Byte) (ay : Ay) : (ay.setReg i v).lfsr = ay.lfsr := by
  unfold Ay.setReg
  split
  · dsimp only
    split <;> rfl
  · rfl

/-! ## What changes the AY keeps its form -/

theorem ayReset_wf : Ay.reset.wf := by
  unfold Ay.wf
  decide

section
variable {ay : Ay} (h : ay.wf)
include h

theorem chipStep_wf : ay.chipStep.wf := by
  refine h.of_regs (chipStep_regs ay) ?_
  by_cases low : ay.noiseCnt ≤ 1
  · obtain ⟨-, shifted, -⟩ := chipStep_noise_reloads ay low
    rw [shifted]
    exact lfsrNext_ne_zero h.2
  · obtain ⟨-, kept⟩ := chipStep_noise_counts ay (Nat.not_le.mp low)
    obtain ⟨same, -⟩ := Prod.mk.inj kept
    rw [same]
    exact h.2

theorem genSample_wf (c : Cfg) : (ay.genSample c).wf := by
  have stepped : (Ay.chipStep^[chipTacts c] ay).wf := Function.Iterate.rec Ay.wf h (fun _ => chipStep_wf) _
  rw [genSample_eq]
  exact stepped

theorem genSample_iterate_wf (c : Cfg) (n : Nat) : ((Ay.genSample c)^[n] ay).wf :=
  Function.Iterate.rec Ay.wf h (fun _ wf => genSample_wf wf c) n

theorem aySetReg_wf (i : Nat) (v : Byte) : (ay.setReg i v).wf := by
  obtain ⟨masked, lfsr⟩ := h
  refine ⟨fun j => ?_, aySetReg_lfsr i v ay ▸ lfsr⟩
  by_cases own : j.val = i
  · subst own
    have written : (ay.setReg j.val v).regs[j] = v &&& ayMask j.val := by
      rw [aySetReg_regs v ay j.isLt]
      exact Vector.getElem_set_self j.isLt
    rw [written, BitVec.and_assoc, BitVec.and_self]
  · rw [aySetReg_regs_ne i v ay j own]
    exact masked j

theorem ayWrite_wf (c : Cfg) (t : Nat) (v : Byte) : (ay.write c t v).wf := by
  obtain ⟨n, made, -⟩ := ayCatchUp_eq c t ay
  unfold Ay.write
  rw [made]
  exact aySetReg_wf (genSample_iterate_wf h c n) _ v

theorem ayLoad_wf (regs : Vector Byte 14) : (ay.load regs).wf :=
  List.foldlRecOn _ _ h fun _ wf i _ => aySetReg_wf wf i _

theorem finishFrame_wf (c : Cfg) : (ay.finishFrame c).wf := by
  cases hasAy : (archConfig c).hasAy with
  | false =>
    rw [finishFrame_of_noAy ay hasAy]
    exact h
  | true =>
    rw [finishFrame_of_hasAy ay hasAy]
    exact genSample_iterate_wf h c _

end

/-! ## The step -/

theorem ayForm_portWrite (p : Word) (v : Byte) {s : State} (h : AyForm s) : AyForm (portWrite p v s) := by
  by_cases hb : betaTakes s p
  · rw [portWrite_betadisk hb]
    exact h
  · rw [portWrite_other hb, portWriteUla_eq, portWritePaging_eq, portWriteAy_eq, ayForm_iff]
    dsimp only
    split
    · split
      · exact h
      · exact ayWrite_wf h _ _ v
    · exact h

/-- What an instruction is made of keeps the AY's form. -/
theorem ayForm_closed : Closed AyForm where
  cpu _ _ h := h
  time _ _ h := h
  fetchPg _ _ h := h
  store _ _ _ h := h
  portIn s p h := by
    rw [portRead_frame]
    exact h
  portOut _ p v h := ayForm_portWrite p v h
  draw _ _ h := h
  wd _ _ h := h

theorem ayForm_loadSnapshot (snap : Snapshot) {s : State} (h : AyForm s) : AyForm (loadSnapshot snap s) := by
  rw [ayForm_iff]
  unfold loadSnapshot
  dsimp only
  split
  · split
    · exact ayLoad_wf h _
    · exact h
  · exact h

theorem ayForm_applyAction (a : HostAction) (s : State) (h : AyForm s) : AyForm (applyAction a s) := by
  unfold applyAction
  cases a with
  | frameStep | setKeys _ | pulseNmi | tapeInsert _ | tapePlay | tapeStop => exact h
  | setKempston _ | insertDisk _ _ _ | ejectDisk _ =>
    dsimp only
    split <;> exact h
  | loadSnapshot snap =>
    dsimp only
    split
    · exact ayForm_loadSnapshot snap h
    · exact h
  | reset => exact ayReset_wf

/-- Settles O24: every change a step is made of keeps the AY's form. -/
theorem stepKeepsAyForm : Obligations.StepKeepsAyForm :=
  fun _ _ h hst => step_closed ayForm_closed ayForm_applyAction (fun _ _ h => h) (fun _ h => h)
    (fun _ h => finishFrame_wf h _) hst h

end Sys2Proof.Machine
end

section
/-! What every step keeps of the disk side: BUSY exactly while a command runs, a controller held in reset idle,
every head at a track up to 83 (47 R603, R618, R632, R639, R644). -/

namespace Sys2Proof.Machine

/-! ## The disk side in a step -/

/-- Every change a step makes of the disk side keeps `Q`. -/
structure DiskClosed (Q : Disk → Prop) : Prop where
  portRead : ∀ d c now lo, Q d → Q (d.portRead c now lo).2
  portWrite : ∀ d c now lo v, Q d → Q (d.portWrite c now lo v)
  catchUp : ∀ d c now, Q d → Q (d.catchUp c now)
  insert : ∀ d c now u image wp, Q d → Q (d.insert c now u image wp).1
  eject : ∀ d c now u, Q d → Q (d.eject c now u)
  reset : ∀ d, Q d → Q { wd := Wd.reset, drives := d.drives.map fun dr => { dr with headTrack := 0 } }

/-- A read of a port that is not the Betadisk's leaves the disk side. -/
theorem portRead_disk_other {p : Word} {s : State} (h : ¬ betaTakes s p) : (portRead p s).2.disk = s.disk := by
  unfold portRead
  rw [if_neg (mt (betaSelected_iff s p).mp h)]
  (repeat' split) <;> rfl

theorem portWrite_disk_other {p : Word} {s : State} (h : ¬ betaTakes s p) (v : Byte) :
    (portWrite p v s).disk = s.disk := by
  rw [portWrite_other h, portWriteUla_eq, portWritePaging_eq, portWriteAy_eq]

section
variable {Q : Disk → Prop} (q : DiskClosed Q)
include q

theorem DiskClosed.closed : Closed fun s => Q s.disk where
  cpu _ _ h := h
  time _ _ h := h
  fetchPg _ _ h := h
  store _ _ _ h := h
  portIn s p h := by
    by_cases hb : betaTakes s p
    · rw [portRead_betadisk hb]
      exact q.portRead _ _ _ _ h
    · rwa [portRead_disk_other hb]
  portOut s p v h := by
    by_cases hb : betaTakes s p
    · rw [portWrite_betadisk hb]
      exact q.portWrite _ _ _ _ _ h
    · rwa [portWrite_disk_other hb]
  draw _ _ h := h
  wd s v h := q.portWrite s.disk s.cfg s.clock.absTime 0x1F v h

theorem DiskClosed.applyAction (a : HostAction) (s : State) (h : Q s.disk) : Q (Machine.applyAction a s).disk := by
  unfold Machine.applyAction
  cases a with
  | frameStep | setKeys _ | pulseNmi | tapeInsert _ | tapePlay | tapeStop => exact h
  | setKempston _ | loadSnapshot _ =>
    dsimp only
    split <;> exact h
  | insertDisk u image wp =>
    dsimp only
    split
    · exact q.insert _ _ _ _ _ _ h
    · exact h
  | ejectDisk u =>
    dsimp only
    split
    · exact q.eject _ _ _ _ h
    · exact h
  | reset => exact q.reset _ h

/-- What every change of the disk side keeps, a step keeps. -/
theorem DiskClosed.step {s t : State} (hst : step s = .next t) (h : Q s.disk) : Q t.disk :=
  step_closed q.closed q.applyAction (fun _ _ h => h) (fun _ h => h) (fun _ h => q.catchUp _ _ _ h) hst h

end

/-! ## The heads -/

/-- The head stands at a track from 0 to 83. -/
def Drive.HeadInRange (dr : Drive) : Prop := dr.headTrack ≤ 83

theorem headInRange_closed : DriveClosed Drive.HeadInRange where
  write _ _ _ h := h
  head dr up h := by
    unfold Drive.HeadInRange at h ⊢
    cases up
    · exact (Nat.sub_le _ _).trans h
    · exact Nat.min_le_right _ _

theorem mountImage_headTrack {img : Image} {wp : Bool} {head : Nat} {dr : Drive}
    (h : mountImage img wp head = some dr) : dr.headTrack = head := by
  unfold mountImage at h
  dsimp only at h
  (repeat' split at h) <;> cases h <;> rfl

theorem headsInRange_closed : DiskClosed (Disk.Each Drive.HeadInRange) where
  portRead _ _ _ _ h := h.portRead headInRange_closed _ _ _
  portWrite _ _ _ _ _ h := h.portWrite headInRange_closed _ _ _ _
  catchUp _ _ _ h := h.catchUp headInRange_closed _ _
  insert d c now u image wp h := h.insert headInRange_closed c now u image wp fun _ _ mounts => by
    unfold Drive.HeadInRange
    rw [mountImage_headTrack mounts]
    exact h.catchUp headInRange_closed c now u
  eject _ _ _ _ h := h.eject headInRange_closed _ _ _ fun _ h => h
  reset d _ u := by simp [Drive.HeadInRange]

/-! ## BUSY -/

/-- BUSY is 1 exactly when the controller is not idle (47 R618). -/
def Wd.BusyExact (w : Wd) : Prop := w.statusReg.getLsbD 0 = decide (w.state ≠ .idle)

/-- A command runs: BUSY is 1 and the controller is not idle. -/
structure Wd.Running (w : Wd) : Prop where
  busy : w.statusReg.getLsbD 0 = true
  notIdle : w.state ≠ .idle

section
variable {w x : Wd}

theorem Wd.BusyExact.running (h : w.BusyExact) (notIdle : w.state ≠ .idle) : w.Running :=
  ⟨h.trans (decide_eq_true notIdle), notIdle⟩

theorem Wd.Running.busyExact (h : w.Running) : w.BusyExact := h.busy.trans (decide_eq_true h.notIdle).symm

/-- A running command's BUSY is kept, and the controller does not go idle. -/
theorem Wd.Running.goesOn (h : w.Running) (busy : x.statusReg.getLsbD 0 = w.statusReg.getLsbD 0)
    (notIdle : x.state ≠ .idle) : x.BusyExact := Wd.Running.busyExact ⟨busy.trans h.busy, notIdle⟩

theorem Wd.BusyExact.ite {p : Prop} [Decidable p] (hw : w.BusyExact) (hx : x.BusyExact) :
    (if p then w else x).BusyExact := by
  split
  · exact hw
  · exact hx

/-- The end of a command clears BUSY and goes idle (47 R634). -/
theorem finish_busyExact (w : Wd) : w.finish.BusyExact := by
  simp [Wd.BusyExact, Wd.finish]

@[simp] theorem deliver_busy (w : Wd) (v : Byte) : (w.deliver v).statusReg.getLsbD 0 = w.statusReg.getLsbD 0 := by
  cases h : w.drq <;> simp [Wd.deliver, Wd.lose, statusBit, h]

@[simp] theorem take_busy (w : Wd) : w.take.2.statusReg.getLsbD 0 = w.statusReg.getLsbD 0 := by
  cases h : w.drq <;> simp [Wd.take, Wd.lose, statusBit, h]

@[simp] theorem take_state (w : Wd) : w.take.2.state = w.state := by
  unfold Wd.take
  split <;> rfl

/-! ## Each micro-state goes on with the command or ends it -/

section
variable (c : Cfg) (b : Byte) (h : w.Running)
include h

theorem verifyOrEnd_busyExact : (w.verifyOrEnd c).BusyExact := by
  rw [verifyOrEnd_eq]
  exact .ite (h.goesOn rfl nofun) (finish_busyExact w)

theorem t1StepWait_busyExact : w.t1StepWait.BusyExact := .ite (h.goesOn rfl nofun) (h.goesOn rfl h.notIdle)

theorem t1Settle_busyExact : w.t1Settle.BusyExact := .ite (h.goesOn rfl nofun) (h.goesOn rfl h.notIdle)

theorem t1Verify_busyExact (ready : Bool) : (w.t1Verify ready b).BusyExact :=
  .ite (.ite (.ite (finish_busyExact _) (h.goesOn rfl h.notIdle)) (h.goesOn rfl h.notIdle))
    (.ite (finish_busyExact _) (.ite (h.goesOn rfl h.notIdle) h.busyExact))

theorem t2Settle_busyExact : w.t2Settle.BusyExact :=
  .ite (.ite (h.goesOn rfl nofun) (.ite (h.goesOn rfl nofun) (h.goesOn rfl nofun))) (h.goesOn rfl h.notIdle)

theorem t2Search_busyExact (ready : Bool) : (w.t2Search ready b).BusyExact := by
  refine .ite (finish_busyExact _) (.ite (h.goesOn rfl ?_) h.busyExact)
  cases isReadAddress w.cmdReg <;> nofun

theorem t2Id_busyExact : (w.t2Id b).BusyExact :=
  .ite (.ite (.ite (h.goesOn rfl nofun) (h.goesOn rfl nofun)) (h.goesOn rfl nofun)) (h.goesOn rfl h.notIdle)

theorem t2Dam_busyExact : (w.t2Dam b).BusyExact :=
  .ite (h.goesOn rfl nofun) (.ite (h.goesOn rfl nofun) (h.goesOn rfl h.notIdle))

theorem nextSector_busyExact (formatted : Bool) : (w.nextSector c formatted).BusyExact :=
  .ite (.ite (.ite (h.goesOn rfl nofun) (h.goesOn rfl nofun)) (finish_busyExact _)) (h.goesOn rfl nofun)

theorem t2Crc_busyExact (formatted : Bool) : (w.t2Crc c formatted).BusyExact := by
  refine .ite (.ite (finish_busyExact _) ?_) (h.goesOn rfl h.notIdle)
  apply nextSector_busyExact
  exact ⟨h.busy, h.notIdle⟩

theorem t2Wgap_busyExact : w.t2Wgap.BusyExact :=
  .ite (finish_busyExact _) (.ite (h.goesOn rfl nofun) (h.goesOn rfl h.notIdle))

/-- A byte delivered: the command goes on. -/
theorem deliver_running : (w.deliver b).Running :=
  ⟨(deliver_busy w b).trans h.busy, (deliver_kept w b).1 ▸ h.notIdle⟩

theorem take_running : w.take.2.Running := ⟨(take_busy w).trans h.busy, take_state w ▸ h.notIdle⟩

theorem t3Ra_busyExact : (w.t3Ra b).BusyExact :=
  have delivered := deliver_running b h
  .ite (finish_busyExact _) (delivered.goesOn rfl delivered.notIdle)

theorem t3Rt_busyExact : (w.t3Rt b).BusyExact :=
  have delivered := deliver_running b h
  .ite (finish_busyExact _) (delivered.goesOn rfl delivered.notIdle)

theorem t3RtIndex_busyExact (index : Bool) : (w.t3RtIndex index b).BusyExact :=
  .ite (t3Rt_busyExact b ⟨h.busy, nofun⟩) h.busyExact

theorem t3WtDrq_busyExact : w.t3WtDrq.BusyExact :=
  .ite (.ite (finish_busyExact _) (h.goesOn rfl nofun)) (h.goesOn rfl h.notIdle)

end

end

section
variable (c : Cfg) (b : Byte) {d : Disk} (h : d.wd.Running)
include h

theorem foldl_feed_running (bs : List Byte) : (bs.foldl Disk.feed d).wd.Running :=
  List.foldlRecOn (motive := fun e : Disk => e.wd.Running) bs _ h fun e he v _ => by
    rw [feed_eq]
    exact ⟨he.busy, he.notIdle⟩

theorem stepOrStop_busyExact : (d.stepOrStop c).wd.BusyExact := by
  unfold Disk.stepOrStop
  split
  · exact verifyOrEnd_busyExact c ⟨h.busy, h.notIdle⟩
  · unfold Disk.stepHead
    dsimp only
    split <;> exact h.goesOn rfl nofun

theorem t1Decide_busyExact : (d.t1Decide c).wd.BusyExact := by
  unfold Disk.t1Decide
  dsimp only
  split
  · split
    · split
      · exact finish_busyExact _
      · exact verifyOrEnd_busyExact c h
    · exact stepOrStop_busyExact c ⟨h.busy, h.notIdle⟩
  · split
    · exact verifyOrEnd_busyExact c h
    · exact stepOrStop_busyExact c h

theorem t2Read_busyExact : (d.t2Read b).wd.BusyExact :=
  have delivered := deliver_running (if d.wd.fastXfer then d.fastByte else b) h
  .ite (delivered.goesOn rfl nofun) (delivered.goesOn rfl delivered.notIdle)

theorem t2Write_busyExact : d.t2Write.wd.BusyExact :=
  have taken := take_running h
  .ite (taken.goesOn rfl nofun) (taken.goesOn rfl taken.notIdle)

theorem t3Wt_busyExact : d.t3Wt.wd.BusyExact :=
  have taken := take_running h
  have fed := foldl_feed_running (d := { d with wd := { d.wd.take.2 with drq := true } })
    ⟨taken.busy, taken.notIdle⟩ (emitBytes d.wd.take.1)
  .ite (finish_busyExact _) (fed.goesOn rfl fed.notIdle)

theorem t3WtIndex_busyExact (index : Bool) : (d.t3WtIndex index).wd.BusyExact := by
  unfold Disk.t3WtIndex
  split
  · exact t3Wt_busyExact ⟨h.busy, nofun⟩
  · exact h.busyExact

omit h in
theorem act_busyExact (index : Bool) (h : d.wd.BusyExact) : (d.act c index b).wd.BusyExact := by
  by_cases idle : d.wd.state = .idle
  · simpa only [Disk.act, idle] using h
  · have runs := h.running idle
    unfold Disk.act
    cases hs : d.wd.state with
    | idle => contradiction
    | t1Decide => exact t1Decide_busyExact c runs
    | t1StepWait => exact t1StepWait_busyExact runs
    | t1Settle => exact t1Settle_busyExact runs
    | t1Verify => exact t1Verify_busyExact b runs _
    | t2Settle => exact t2Settle_busyExact runs
    | t2Search => exact t2Search_busyExact b runs _
    | t2Id => exact t2Id_busyExact b runs
    | t2Dam => exact t2Dam_busyExact b runs
    | t2Read => exact t2Read_busyExact b runs
    | t2Crc => exact t2Crc_busyExact c runs _
    | t2Wgap => exact t2Wgap_busyExact runs
    | t2Write => exact t2Write_busyExact runs
    | t3Ra => exact t3Ra_busyExact b runs
    | t3RtIndex => exact t3RtIndex_busyExact b runs index
    | t3Rt => exact t3Rt_busyExact b runs
    | t3WtDrq => exact t3WtDrq_busyExact runs
    | t3WtIndex => exact t3WtIndex_busyExact runs index
    | t3Wt => exact t3Wt_busyExact runs

end

/-! ## The controller's form -/

/-- BUSY is exact, and a controller held in reset is idle. -/
def Wd.Form (w : Wd) : Prop := w.BusyExact ∧ (w.heldInReset = true → w.state = .idle)

/-- The form looks at three registers. -/
theorem Wd.Form.congr {w x : Wd} (h : w.Form) (status : x.statusReg = w.statusReg) (state : x.state = w.state)
    (held : x.heldInReset = w.heldInReset) : x.Form := by
  unfold Wd.Form Wd.BusyExact
  rwa [status, state, held]

theorem Wd.Form.of_released {w : Wd} (h : w.BusyExact) (released : w.heldInReset = false) : w.Form :=
  ⟨h, fun held => absurd held (Bool.eq_false_iff.mp released)⟩

/-- An idle controller whose BUSY is 0. -/
theorem Wd.Form.of_idle {w : Wd} (busy : w.statusReg.getLsbD 0 = false) (idle : w.state = .idle) : w.Form :=
  ⟨busy.trans (decide_eq_false (not_not.mpr idle)).symm, fun _ => idle⟩

@[simp] theorem indexed_statusReg (k : Nat) (d : Disk) : (indexed k d).statusReg = d.wd.statusReg := by
  unfold indexed
  split <;> rfl

section
variable (c : Cfg) {d : Disk} (h : d.wd.Form)
include h

theorem byteStep_form (k : Nat) : (d.byteStep c k).wd.Form := by
  have marked : (indexed k d).Form := h.congr (indexed_statusReg k d) (indexed_state k d) (indexed_heldInReset k d)
  rw [byteStep_eq]
  split
  · exact marked
  · next released =>
    have acted := act_busyExact c (d.trackByteAt (k % 6250)) (d := { d with wd := indexed k d }) (d.indexPulse k)
      marked.1
    refine .of_released acted ?_
    refine (congrArg Wd.Setup.heldInReset (act_setup c _ _ { d with wd := indexed k d })).trans ?_
    exact (indexed_heldInReset k d).trans (Bool.eq_false_iff.mpr released)

theorem byteSteps_form (k n : Nat) : (d.byteSteps c k n).wd.Form := by
  induction n generalizing k d with
  | zero => exact h
  | succ n ih => exact ih (byteStep_form c h _) _

theorem catchUp_form (now : Nat) : (d.catchUp c now).wd.Form :=
  (byteSteps_form c h _ _).congr rfl rfl rfl

end

/-! ## Commands -/

theorem startTypeIIIII_busyExact (c : Cfg) (ready wp : Bool) (v : Byte) {w : Wd}
    (busy : w.statusReg.getLsbD 0 = true) : (w.startTypeIIIII c ready wp v).BusyExact :=
  .ite (finish_busyExact _) (.ite (finish_busyExact _) (Wd.Running.busyExact ⟨busy, nofun⟩))

theorem startTypeIIIII_heldInReset (c : Cfg) (ready wp : Bool) (v : Byte) (w : Wd) :
    (w.startTypeIIIII c ready wp v).heldInReset = w.heldInReset := by
  unfold Wd.startTypeIIIII
  dsimp only
  (repeat' split) <;> rfl

/-- A command of Type I, II or III starts with BUSY 1, or ends at once (47 R631). -/
theorem commandStart_form (c : Cfg) (v : Byte) {d : Disk} (released : d.wd.heldInReset = false) :
    (d.commandStart c v).wd.Form := by
  have busy : (0x01#8).getLsbD 0 = true := by decide
  by_cases kind : v.toNat / 16 < 8
  · rw [commandStart_typeI kind, startTypeI_eq _ _ kind]
    exact .of_released busy released
  · rw [commandStart_typeIIIII (Nat.le_of_not_lt kind)]
    exact .of_released (startTypeIIIII_busyExact _ _ _ _ busy) ((startTypeIIIII_heldInReset _ _ _ _ _).trans released)

theorem forceInterrupt_form (v : Byte) (w : Wd) : (w.forceInterrupt v).Form := by
  rw [forceInterrupt_eq]
  refine .of_idle ?_ rfl
  dsimp only
  split
  · rfl
  · simp

theorem commandWrite_form (c : Cfg) (v : Byte) {d : Disk} (h : d.wd.Form) (released : d.wd.heldInReset = false) :
    (d.commandWrite c v).wd.Form := by
  by_cases kind : v.toNat / 16 = 13
  · rw [commandWrite_force kind]
    exact forceInterrupt_form v _
  · by_cases idle : d.wd.state = .idle
    · rw [commandWrite_idle kind idle]
      exact commandStart_form c v released
    · rwa [commandWrite_busy kind idle]

theorem wdReset_notBusy : Wd.reset.statusReg.getLsbD 0 = false := by decide

/-! ## The system register (47 R603) -/

section
variable (c : Cfg) {v : Byte} {d : Disk}

/-- With bit 2 clear the controller is reset and held. -/
theorem systemWrite_hold (bit2 : v.getLsbD 2 = false) : d.systemWrite c v =
    { d with wd := { Wd.reset with lastStep := d.wd.lastStep, heldInReset := true, betaSys := v } } := by
  unfold Disk.systemWrite
  rw [bit2]
  rfl

/-- With bit 2 set a held controller is released into a RESTORE. -/
theorem systemWrite_release (bit2 : v.getLsbD 2 = true) (held : d.wd.heldInReset = true) : d.systemWrite c v =
    ({ d with wd := { d.wd with betaSys := v, heldInReset := false } } : Disk).commandStart c 0x03 := by
  unfold Disk.systemWrite
  rw [bit2, held]
  rfl

/-- With bit 2 set a running controller takes the latch only. -/
theorem systemWrite_latch (bit2 : v.getLsbD 2 = true) (released : d.wd.heldInReset = false) : d.systemWrite c v =
    { d with wd := { d.wd with betaSys := v } } := by
  unfold Disk.systemWrite
  rw [bit2, released]
  rfl

theorem systemWrite_form (v : Byte) (h : d.wd.Form) : (d.systemWrite c v).wd.Form := by
  cases bit2 : v.getLsbD 2 with
  | false =>
    rw [systemWrite_hold c bit2]
    exact .of_idle wdReset_notBusy rfl
  | true =>
    cases held : d.wd.heldInReset with
    | true =>
      rw [systemWrite_release c bit2 held]
      exact commandStart_form c _ rfl
    | false =>
      rw [systemWrite_latch c bit2 held]
      exact h.congr rfl rfl rfl

end

/-! ## The ports and the host -/

section
variable (c : Cfg) (now : Nat) (v : Byte) {d : Disk}

theorem portWrite_of_held (held : (d.catchUp c now).wd.heldInReset = true) {lo : Byte} (notSystem : lo ≠ 0xFF) :
    d.portWrite c now lo v = d.catchUp c now := by
  unfold Disk.portWrite
  rw [if_neg notSystem, if_pos held]

theorem portWrite_of_released (released : (d.catchUp c now).wd.heldInReset = false) {lo : Byte}
    (notSystem : lo ≠ 0xFF) :
    let e := d.catchUp c now
    d.portWrite c now lo v =
      if lo = 0x1F then e.commandWrite c v
      else if lo = 0x3F then { e with wd := { e.wd with trackReg := v } }
      else if lo = 0x5F then { e with wd := { e.wd with sectorReg := v } }
      else { e with wd := { e.wd with dataReg := v, drq := false } } := by
  unfold Disk.portWrite
  dsimp only
  rw [if_neg notSystem, if_neg (Bool.eq_false_iff.mp released)]
  rfl

end

theorem portRead_form (c : Cfg) (now : Nat) (lo : Byte) {d : Disk} (h : d.wd.Form) :
    (d.portRead c now lo).2.wd.Form := by
  have caught := catchUp_form c h now
  unfold Disk.portRead
  dsimp only
  (repeat' split) <;> exact caught.congr rfl rfl rfl

theorem portWrite_form (c : Cfg) (now : Nat) (lo v : Byte) {d : Disk} (h : d.wd.Form) :
    (d.portWrite c now lo v).wd.Form := by
  have caught := catchUp_form c h now
  by_cases system : lo = 0xFF
  · subst system
    exact systemWrite_form c v caught
  · by_cases held : (d.catchUp c now).wd.heldInReset = true
    · rwa [portWrite_of_held c now v held system]
    · rw [Bool.not_eq_true] at held
      rw [portWrite_of_released c now v held system]
      dsimp only
      split
      · exact commandWrite_form c v caught held
      · split
        · exact caught.congr rfl rfl rfl
        · split <;> exact caught.congr rfl rfl rfl

/-- An insertion changes no register of the form. -/
theorem insert_form (c : Cfg) (now : Nat) (u : Fin 4) (image : Option Image) (wp : Bool) {d : Disk} (h : d.wd.Form) :
    (d.insert c now u image wp).1.wd.Form := by
  unfold Disk.insert
  split
  · exact h
  · exact (catchUp_form c h now).congr rfl rfl rfl

/-- An ejection from the selected unit ends the command (47 R671). -/
theorem eject_form (c : Cfg) (now : Nat) (u : Fin 4) {d : Disk} (h : d.wd.Form) : (d.eject c now u).wd.Form := by
  have caught := catchUp_form c h now
  rw [diskEject_eq]
  dsimp only
  split
  · exact caught
  · split
    · exact caught.congr rfl rfl rfl
    · exact .of_idle (by simp) rfl

theorem wdForm_closed : DiskClosed fun d => d.wd.Form where
  portRead _ _ _ _ h := portRead_form _ _ _ h
  portWrite _ _ _ _ _ h := portWrite_form _ _ _ _ h
  catchUp _ _ _ h := catchUp_form _ h _
  insert _ _ _ _ _ _ h := insert_form _ _ _ _ _ h
  eject _ _ _ _ h := eject_form _ _ _ h
  reset _ _ := .of_idle wdReset_notBusy rfl

/-- Settles O23: every change a step makes of the disk side keeps the controller's form, and each head's range. -/
theorem stepKeepsBusyExact : Obligations.StepKeepsBusyExact :=
  ⟨fun _ _ h hst => wdForm_closed.step hst h, fun _ _ h hst => headsInRange_closed.step hst h⟩

end Sys2Proof.Machine
end

section
/-! The Betadisk ports, the system register, the end of a command and LOST DATA (47 R601 to R603, R615 to R617, R634,
R635, R660, R661). -/

namespace Sys2Proof.Machine

/-! ## Bytes given bit by bit -/

theorem byteOfBits_getLsbD (b7 b6 b5 b4 b3 b2 b1 b0 : Bool) :
    let v := byteOfBits b7 b6 b5 b4 b3 b2 b1 b0
    v.getLsbD 7 = b7 ∧ v.getLsbD 6 = b6 ∧ v.getLsbD 5 = b5 ∧ v.getLsbD 4 = b4 ∧ v.getLsbD 3 = b3
      ∧ v.getLsbD 2 = b2 ∧ v.getLsbD 1 = b1 ∧ v.getLsbD 0 = b0 := by
  revert b7 b6 b5 b4 b3 b2 b1 b0
  decide

/-- The system port's byte: INTRQ, DRQ and six bits that read as 1 (47 R601). -/
theorem systemPortByte_toNat (intrq drq : Bool) : (byteOfBits intrq drq true true true true true true).toNat
    = (if intrq then 0x80 else 0) + (if drq then 0x40 else 0) + 0x3F := by
  revert intrq drq
  decide

/-! ## Reads of the ports -/

/-- The status byte bit by bit: bits 7, 4, 3 and 0 of either type, the others by the type (47 R615). -/
theorem statusValue_bits (c : Cfg) (now : Nat) (d : Disk) :
    let v := d.statusValue c now
    let st := d.wd.statusReg
    v.getLsbD 7 = (!d.ready) ∧ v.getLsbD 4 = st.getLsbD 4 ∧ v.getLsbD 3 = st.getLsbD 3
      ∧ v.getLsbD 0 = st.getLsbD 0
      ∧ (d.wd.statusType = .typeI →
          v.getLsbD 6 = (d.ready && d.drive.writeProtected) ∧ v.getLsbD 5 = d.wd.headLoaded
            ∧ v.getLsbD 2 = decide (d.drive.headTrack = 0)
            ∧ v.getLsbD 1 = (d.ready && decide (now / c.diskByteTstates % 6250 < 63)))
      ∧ (d.wd.statusType = .typeIIIII →
          v.getLsbD 6 = st.getLsbD 6 ∧ v.getLsbD 5 = st.getLsbD 5 ∧ v.getLsbD 2 = st.getLsbD 2
            ∧ v.getLsbD 1 = d.wd.drq) := by
  dsimp only
  unfold Disk.statusValue
  cases d.wd.statusType with
  | typeI =>
    obtain ⟨b7, b6, b5, b4, b3, b2, b1, b0⟩ := byteOfBits_getLsbD (!d.ready) (d.ready && d.drive.writeProtected)
      d.wd.headLoaded (d.wd.statusReg.getLsbD 4) (d.wd.statusReg.getLsbD 3) d.tr00 (d.indexActive c now)
      (d.wd.statusReg.getLsbD 0)
    exact ⟨b7, b4, b3, b0, fun _ => ⟨b6, b5, b2, b1⟩, nofun⟩
  | typeIIIII =>
    obtain ⟨b7, b6, b5, b4, b3, b2, b1, b0⟩ := byteOfBits_getLsbD (!d.ready) (d.wd.statusReg.getLsbD 6)
      (d.wd.statusReg.getLsbD 5) (d.wd.statusReg.getLsbD 4) (d.wd.statusReg.getLsbD 3) (d.wd.statusReg.getLsbD 2)
      d.wd.drq (d.wd.statusReg.getLsbD 0)
    exact ⟨b7, b4, b3, b0, nofun, fun _ => ⟨b6, b5, b2, b1⟩⟩

/-- Settles O56: each port's read by its line, the system port's byte and the status byte bit by bit. -/
theorem wdPortReads : Obligations.WdPortReads := fun c now d =>
  ⟨rfl, rfl, rfl, ⟨rfl, systemPortByte_toNat _ _⟩, rfl, statusValue_bits c now (d.catchUp c now)⟩

/-! ## Writes of the ports -/

section
variable (c : Cfg) (now : Nat) (v : Byte) {d : Disk}

theorem portWrite_registers (released : (d.catchUp c now).wd.heldInReset = false) :
    let e := d.catchUp c now
    d.portWrite c now 0x3F v = { e with wd := { e.wd with trackReg := v } }
      ∧ d.portWrite c now 0x5F v = { e with wd := { e.wd with sectorReg := v } }
      ∧ d.portWrite c now 0x7F v = { e with wd := { e.wd with dataReg := v, drq := false } } :=
  ⟨portWrite_of_released c now v released (by decide), portWrite_of_released c now v released (by decide),
    portWrite_of_released c now v released (by decide)⟩

end

/-- The RESTORE of a release changes no drive, and leaves BUSY set with the track register at 0xFF (47 R603, R631). -/
theorem commandStart_restore (c : Cfg) (d : Disk) : d.commandStart c 0x03 =
    { d with wd := { d.wd.commandCommon 0x03 with
      statusType := .typeI, headLoaded := false, trackReg := 0xFF, dataReg := 0x00, dsr := 0x00,
      state := .t1Decide } } := by
  rw [commandStart_typeI (by decide), startTypeI_eq _ _ (by decide)]
  rfl

/-- Settles O57: the three cases of a system register write, and the writes of the registers, held in reset or not. -/
theorem wdSystemRegister : Obligations.WdSystemRegister := by
  refine ⟨fun c now v d => ?_, fun c now v d => ⟨fun held lo hlo => ?_, portWrite_registers c now v⟩⟩
  · have system : d.portWrite c now 0xFF v = (d.catchUp c now).systemWrite c v := rfl
    dsimp only
    rw [system]
    generalize d.catchUp c now = e
    cases bit2 : v.getLsbD 2 with
    | false =>
      rw [systemWrite_hold c bit2]
      exact ⟨rfl, rfl, rfl, fun _ => rfl, nofun, nofun⟩
    | true =>
      cases held : e.wd.heldInReset with
      | true =>
        rw [systemWrite_release c bit2 held, commandStart_restore]
        exact ⟨rfl, rfl, rfl, nofun, fun _ _ => ⟨rfl, rfl, rfl, rfl, rfl⟩, nofun⟩
      | false =>
        rw [systemWrite_latch c bit2 held]
        exact ⟨rfl, rfl, rfl, nofun, nofun, fun _ _ => by rw [← held]⟩
  · have notSystem : ∀ lo ∈ [(0x1F : Byte), 0x3F, 0x5F, 0x7F], lo ≠ 0xFF := by decide
    exact portWrite_of_held c now v held (notSystem lo hlo)

/-! ## The end of a command, LOST DATA -/

section
variable {w : Wd} (b : Byte)

theorem deliver_of_served (served : w.drq = false) : w.deliver b = { w with dataReg := b, drq := true } := by
  unfold Wd.deliver
  rw [served]
  rfl

theorem take_of_served (served : w.drq = false) : w.take = (w.dataReg, w) := if_neg (Bool.eq_false_iff.mp served)

theorem deliver_of_lost (lost : w.drq = true) :
    w.deliver b = { w with lostData := true, statusReg := w.statusReg ||| 0x04, dataReg := b } := by
  unfold Wd.deliver
  simp only [lost, if_true]
  rfl

theorem take_of_lost (lost : w.drq = true) :
    w.take = (0x00, { w with lostData := true, statusReg := w.statusReg ||| 0x04 }) := if_pos lost

end

/-- Settles O58: the end of a command as it is defined, and a byte delivered or taken with the previous request served
or not. -/
theorem wdEndAndLostData : Obligations.WdEndAndLostData :=
  ⟨fun _ => rfl, fun _ b => ⟨fun served => ⟨deliver_of_served b served, take_of_served served⟩,
    fun lost => ⟨deliver_of_lost b lost, take_of_lost lost⟩⟩⟩

end Sys2Proof.Machine
end

section
/-! Where a track and an image hold a sector's bytes, and the READ SECTOR transfer (47 R604, R611 to R614, R621, R622,
R635, R646). -/

namespace Sys2Proof.Machine

/-! ## The track under the head -/

section
variable {d e : Disk}

theorem formatted_iff (d : Disk) : d.formatted = true ↔ d.drive.available = true
    ∧ d.drive.headTrack < d.drive.tracks ∧ d.wd.side < d.drive.sides := by
  simp only [Disk.formatted, Bool.and_eq_true, decide_eq_true_eq, and_assoc]
  rfl

theorem ready_of_formatted (h : d.formatted = true) : d.ready = true := ((formatted_iff d).mp h).1

/-- On a formatted track the record of sector `r` begins at 80 + 372 (r - 1) (47 R621). -/
theorem trackByteAt_record (h : d.formatted = true) {r o : Nat} (hr : r ≤ 16) (h1 : 1 ≤ r) (ho : o < 372) :
    d.trackByteAt (80 + 372 * (r - 1) + o) = recordByte d.drive d.cyl d.wd.side (r - 1) o := by
  have inside : (80 ≤ 80 + 372 * (r - 1) + o && 80 + 372 * (r - 1) + o < 6032) = true := by
    simp only [Bool.and_eq_true, decide_eq_true_eq]
    omega
  have record : (80 + 372 * (r - 1) + o - 80) / 372 = r - 1 := by omega
  have offset : (80 + 372 * (r - 1) + o - 80) % 372 = o := by omega
  simp only [Disk.trackByteAt, ready_of_formatted h, h, inside, record, offset, Bool.not_true, Bool.false_eq_true,
    if_false, if_true]

theorem recordByte_data (dr : Drive) (cyl side j : Nat) {i : Nat} (hi : i < 256) :
    recordByte dr cyl side j (60 + i) = sectorData dr cyl side (j + 1) i := by
  unfold recordByte
  repeat rw [if_neg (by omega)]
  rw [if_pos (by omega), Nat.add_sub_cancel_left]

theorem trackByteAt_data (h : d.formatted = true) {r i : Nat} (h1 : 1 ≤ r) (hr : r ≤ 16) (hi : i < 256) :
    d.trackByteAt (80 + 372 * (r - 1) + 60 + i) = sectorData d.drive d.cyl d.wd.side r i := by
  rw [Nat.add_assoc _ 60 i, trackByteAt_record h hr h1 (by omega), recordByte_data _ _ _ _ hi, Nat.sub_add_cancel h1]

/-- The address mark and the ID field, 12 bytes into the record, and the data mark. -/
theorem trackByteAt_marks (h : d.formatted = true) {r : Nat} (h1 : 1 ≤ r) (hr : r ≤ 16) :
    let start := 80 + 372 * (r - 1)
    [d.trackByteAt (start + 12), d.trackByteAt (start + 13), d.trackByteAt (start + 14), d.trackByteAt (start + 15),
        d.trackByteAt (start + 16), d.trackByteAt (start + 17), d.trackByteAt (start + 18), d.trackByteAt (start + 19)]
      = [0xA1, 0xA1, 0xA1, 0xFE, byteOf d.cyl, byteOf d.wd.side, byteOf r, 0x01]
      ∧ d.trackByteAt (start + 59) = 0xFB := by
  have record {o : Nat} (ho : o < 372) := trackByteAt_record h hr h1 ho
  have number : byteOf (r - 1 + 1) = byteOf r := by rw [Nat.sub_add_cancel h1]
  dsimp only
  rw [record (by decide), record (by decide), record (by decide), record (by decide), record (by decide),
    record (by decide), record (by decide), record (by decide), record (by decide), ← number]
  exact ⟨rfl, rfl⟩

theorem trackByteAt_unformatted (ready : d.ready = true) (h : d.formatted = false) (p : Nat) :
    d.trackByteAt p = 0x4E := by
  unfold Disk.trackByteAt
  rw [ready, h]
  rfl

theorem trackByteAt_not_ready (h : d.ready = false) (p : Nat) : d.trackByteAt p = 0x00 := by
  unfold Disk.trackByteAt
  rw [h]
  rfl

/-- The track is that of the drives and of the system register. -/
theorem trackByteAt_congr (drives : e.drives = d.drives) (betaSys : e.wd.betaSys = d.wd.betaSys) (p : Nat) :
    e.trackByteAt p = d.trackByteAt p := by
  obtain ⟨w, drs⟩ := e
  obtain rfl : drs = d.drives := drives
  have unit : w.unit = d.wd.unit := congrArg (fun v : Byte => (v.extractLsb' 0 2).toFin) betaSys
  have side : w.side = d.wd.side := congrArg (fun v : Byte => if v.getLsbD 4 then 0 else 1) betaSys
  simp only [Disk.trackByteAt, ready_of_unit unit, formatted_of_unit unit side, drive_of_unit unit, cyl_of_unit unit,
    side]

theorem wd_unit_val (w : Wd) : w.unit.val = w.betaSys.toNat % 4 := by
  simp [Wd.unit]

end

/-! ## A sector in an image -/

theorem sclStart_eq (img : Image) (n : Nat) : sclStart img n = 16 + sclSum img n := by
  unfold sclStart
  congr 1
  induction n with
  | zero => rfl
  | succ n ih => rw [List.range_succ, List.map_append, List.sum_append, ih]; rfl

theorem sectorData_of_trd {dr : Drive} (h : dr.kind = .trd) (c s r i : Nat) :
    sectorData dr c s r i = dr.image.byte (((c * dr.sides + s) * 16 + (r - 1)) * 256 + i) := by
  unfold sectorData
  rw [h]
  rfl

theorem sectorData_of_scl {dr : Drive} {t0 : Image} (h : dr.kind = .scl) (track0 : dr.sclTrack0 = some t0)
    (c s r i : Nat) :
    let n := (dr.image.byte 8).toNat
    let l := (c * 2 + s) * 16 + (r - 1)
    let off := (l - 16) * 256 + i
    sectorData dr c s r i =
      if l < 16 then t0.byte (l * 256 + i)
      else if off < 256 * (sclStart dr.image n - 16) then dr.image.byte (9 + 14 * n + off)
      else 0x00 := by
  dsimp only
  rw [sclStart_eq, Nat.add_sub_cancel_left]
  unfold sectorData
  rw [h, track0]
  rfl

/-! ## Lists of bytes -/

/-- Of a list that goes on, the last byte listed for an offset. -/
theorem lastListed_append (l t : List Host.Cell) (o : Nat) :
    lastListed (l ++ t) o = t.foldl (fun v c => if o = c.1 then c.2 else v) (lastListed l o) := by
  induction t using List.reverseRecOn with
  | nil => rw [List.append_nil, List.foldl_nil]
  | append_singleton t c ih => rw [← List.append_assoc, lastListed_concat, ih, List.foldl_concat]

/-- A run of bytes from `base` on. -/
theorem lastListed_append_run (l : List Host.Cell) (base m : Nat) (f : Nat → Byte) (o : Nat) :
    lastListed (l ++ (List.range m).map fun k => (base + k, f k)) o
      = if base ≤ o ∧ o < base + m then f (o - base) else lastListed l o := by
  induction m with
  | zero => rw [List.range_zero, List.map_nil, List.append_nil, if_neg (by omega)]
  | succ m ih =>
    rw [List.range_succ, List.map_append, ← List.append_assoc, List.map_singleton, lastListed_concat, ih]
    by_cases last : o = base + m
    · rw [if_pos last, if_pos (by omega), last, Nat.add_sub_cancel_left]
    · rw [if_neg last]
      exact if_congr (by omega) rfl rfl

/-! ## Track 0 of an SCL disk -/

/-- Byte `k` of the directory entry of SCL file `i` (47 R613). -/
def sclEntryByte (img : Image) (i k : Nat) : Byte :=
  if k = 14 then BitVec.ofNat 8 (sclStart img i % 16)
  else if k = 15 then BitVec.ofNat 8 (sclStart img i / 16)
  else img.byte (9 + 14 * i + k)

theorem lastListed_append_sclEntry (l : List Host.Cell) (img : Image) (i o : Nat) :
    lastListed (l ++ sclEntry img i) o = if o / 16 = i then sclEntryByte img i (o % 16) else lastListed l o := by
  unfold sclEntry sclEntryByte
  rw [← sclStart_eq, ← List.append_assoc, lastListed_append, lastListed_append_run]
  simp only [List.foldl_cons, List.foldl_nil]
  by_cases inside : o / 16 = i
  · rw [if_pos inside]
    by_cases last : o % 16 = 15
    · rw [if_pos (by omega), if_neg (by omega), if_pos last]
      rfl
    · rw [if_neg (by omega), if_neg last]
      by_cases sector : o % 16 = 14
      · rw [if_pos (by omega), if_pos sector]
        rfl
      · rw [if_neg (by omega), if_neg sector, if_pos (by omega)]
        congr 1
        omega
  · rw [if_neg inside, if_neg (by omega), if_neg (by omega), if_neg (by omega)]

/-- The directory entries, 16 bytes each. -/
theorem lastListed_sclEntries (img : Image) (n o : Nat) :
    lastListed ((List.range n).flatMap (sclEntry img)) o =
      if o < 16 * n then sclEntryByte img (o / 16) (o % 16) else 0x00 := by
  induction n with
  | zero => rfl
  | succ n ih =>
    rw [List.range_succ, List.flatMap_append, List.flatMap_singleton, lastListed_append_sclEntry, ih]
    by_cases last : o / 16 = n
    · rw [if_pos last, if_pos (by omega), last]
    · rw [if_neg last]
      exact if_congr (by omega) rfl rfl

/-- The low byte of the number of free sectors (log 17). -/
theorem freeSectors_lo (free : Nat) :
    (BitVec.ofNat 16 2560 - BitVec.ofNat 16 free).extractLsb' 0 8 = BitVec.ofInt 8 (2560 - free) := by
  apply BitVec.eq_of_toNat_eq
  simp only [BitVec.extractLsb'_toNat, BitVec.toNat_sub, BitVec.toNat_ofNat, BitVec.toNat_ofInt, Nat.shiftRight_zero]
  omega

/-- The high byte of the number of free sectors (log 17). -/
theorem freeSectors_hi (free : Nat) :
    (BitVec.ofNat 16 2560 - BitVec.ofNat 16 free).extractLsb' 8 8 = BitVec.ofInt 8 ((2560 - free) / 256) := by
  apply BitVec.eq_of_toNat_eq
  simp only [BitVec.extractLsb'_toNat, BitVec.toNat_sub, BitVec.toNat_ofNat, BitVec.toNat_ofInt,
    Nat.shiftRight_eq_div_pow]
  omega

/-- The byte of the disk information at offset `o` of track 0, `other` where it has none (47 R613). -/
def sclInfoByte (img : Image) (other : Byte) (o : Nat) : Byte :=
  let n := (img.byte 8).toNat
  let free := sclStart img n
  if o = 0x8E1 then BitVec.ofNat 8 (free % 16)
  else if o = 0x8E2 then BitVec.ofNat 8 (free / 16)
  else if o = 0x8E3 then 0x16
  else if o = 0x8E4 then BitVec.ofNat 8 n
  else if o = 0x8E5 then BitVec.ofInt 8 (2560 - free)
  else if o = 0x8E6 then BitVec.ofInt 8 ((2560 - free) / 256)
  else if o = 0x8E7 then 0x10
  else if (0x8EA ≤ o ∧ o ≤ 0x8F2) ∨ (0x8F5 ≤ o ∧ o ≤ 0x8FC) then 0x20
  else other

theorem lastListed_append_sclInfo (l : List Host.Cell) (img : Image) (o : Nat) :
    lastListed (l ++ sclInfo img) o = sclInfoByte img (lastListed l o) o := by
  unfold sclInfo sclInfoByte
  dsimp only
  rw [← sclStart_eq, freeSectors_lo, freeSectors_hi, ← List.append_assoc, ← List.append_assoc,
    lastListed_append_run, lastListed_append_run, lastListed_append]
  simp only [List.foldl_cons, List.foldl_nil]
  by_cases single : 0x8E1 ≤ o ∧ o ≤ 0x8E7
  · obtain ⟨lo, hi⟩ := single
    interval_cases o <;> rfl
  · by_cases title : 0x8F5 ≤ o ∧ o ≤ 0x8FC
    · rw [if_pos (by omega)]
      repeat rw [if_neg (by omega)]
      rw [if_pos (.inr title)]
    · rw [if_neg (by omega)]
      by_cases blanks : 0x8EA ≤ o ∧ o ≤ 0x8F2
      · rw [if_pos (by omega)]
        repeat rw [if_neg (by omega)]
        rw [if_pos (.inl blanks)]
      · repeat rw [if_neg (by omega)]

/-- The disk information begins at offset 0x8E1. -/
theorem sclInfoByte_of_lt (img : Image) (other : Byte) {o : Nat} (h : o < 0x8E1) : sclInfoByte img other o = other := by
  unfold sclInfoByte
  dsimp only
  repeat rw [if_neg (by omega)]

/-- Track 0 of an SCL disk, byte by byte (47 R613). -/
theorem sclTrack0Of_byte {img : Image} (files : (img.byte 8).toNat ≤ 128) {o : Nat} (ho : o < 4096) :
    (sclTrack0Of img).byte o =
      if o < 16 * (img.byte 8).toNat then sclEntryByte img (o / 16) (o % 16) else sclInfoByte img 0x00 o := by
  have listed : (sclTrack0Of img).byte o
      = sclInfoByte img (if o < 16 * (img.byte 8).toNat then sclEntryByte img (o / 16) (o % 16) else 0x00) o := by
    rw [Image.byte, if_pos (show o < (sclTrack0Of img).size from ho), sclTrack0Of, memGet_memSetAll,
      lastListed_append_sclInfo, lastListed_sclEntries]
    rfl
  rw [listed]
  by_cases entry : o < 16 * (img.byte 8).toNat
  · rw [if_pos entry, if_pos entry]
    have below : o < 0x8E1 := by omega
    exact sclInfoByte_of_lt _ _ below
  · rw [if_neg entry, if_neg entry]

/-! ## The READ SECTOR transfer -/

theorem indexed_of_no_pulse {k : Nat} (h : k % 6250 ≠ 0) (d : Disk) : indexed k d = d.wd := if_neg fun g => h g.2

theorem byteStepsFrom_concat (c : Cfg) (k n : Nat) (d : Disk) :
    byteStepsFrom c k (n + 1) d = (byteStepsFrom c k n d).byteStep c (k + 1 + n) := by
  simp only [byteStepsFrom, List.range_succ, List.foldl_concat]

/-- A byte delivered, whether the previous request was served or not (47 R635). -/
theorem deliver_eq (w : Wd) (b : Byte) : w.deliver b =
    { w with lostData := w.lostData || w.drq, statusReg := if w.drq then w.statusReg ||| 0x04 else w.statusReg,
             dataReg := b, drq := true } := by
  by_cases h : w.drq = true
  · simp [deliver_of_lost b h, h]
  · rw [Bool.not_eq_true] at h
    simp [deliver_of_served b h, h]

/-- A byte step of a transfer delivers the byte under the head (47 R646). -/
theorem byteStep_of_t2Read {c : Cfg} {k : Nat} {d : Disk} (released : d.wd.heldInReset = false)
    (reads : d.wd.state = .t2Read) (slow : d.wd.fastXfer = false) (noPulse : k % 6250 ≠ 0) :
    byteStepGives c k d d.drives
      { d.wd with
        lostData := d.wd.lostData || d.wd.drq,
        statusReg := if d.wd.drq then d.wd.statusReg ||| 0x04 else d.wd.statusReg,
        dataReg := d.trackByteAt (k % 6250), drq := true, byteIndex := d.wd.byteIndex + 1,
        stepState := if d.wd.byteIndex = 255 then 0 else d.wd.stepState,
        state := if d.wd.byteIndex = 255 then .t2Crc else .t2Read } := by
  obtain ⟨-, -, read, -, -, -⟩ := wdSectorClaim_holds (c := c) (k := k) released
  have given := read ((indexed_state k d).trans reads)
  rw [indexed_of_no_pulse noPulse] at given
  simp only [if_pos slow, deliver_eq] at given
  by_cases last : d.wd.byteIndex = 255
  · rw [if_pos last] at given
    rwa [if_pos last, if_pos last]
  · rw [if_neg last] at given
    rwa [if_neg last, if_neg last, ← reads]

/-- LOST DATA is latched by the `m`-th byte of a transfer that the host does not serve: by the first if a request was
pending, by the second in any case. -/
def lostBy (pending : Bool) (m : Nat) : Bool := decide (1 ≤ m) && (pending || decide (2 ≤ m))

theorem lostBy_succ (pending : Bool) (m : Nat) :
    lostBy pending (m + 1) = (lostBy pending m || (pending || decide (1 ≤ m))) := by
  cases m <;> simp [lostBy]

/-- LOST DATA latched again stays as it is. -/
theorem latch_lostData (st : Byte) (before now : Bool) :
    (if now then (if before then st ||| 0x04 else st) ||| 0x04 else if before then st ||| 0x04 else st)
      = if before || now then st ||| 0x04 else st := by
  cases before <;> cases now <;> simp [BitVec.or_assoc]

/-- A READ SECTOR transfer of sector `r` that began on `d` and has delivered `m` bytes, none of them read, has come
to `e`. -/
structure Transferred (d : Disk) (r m : Nat) (e : Disk) : Prop where
  drives : e.drives = d.drives
  betaSys : e.wd.betaSys = d.wd.betaSys
  released : e.wd.heldInReset = false
  slow : e.wd.fastXfer = false
  byteIndex : e.wd.byteIndex = m
  state : e.wd.state = if m = 256 then .t2Crc else .t2Read
  dataReg : 1 ≤ m → e.wd.dataReg = sectorData d.drive d.cyl d.wd.side r (m - 1)
  drq : e.wd.drq = (d.wd.drq || decide (1 ≤ m))
  lostData : e.wd.lostData = (d.wd.lostData || lostBy d.wd.drq m)
  statusReg : e.wd.statusReg = if lostBy d.wd.drq m then d.wd.statusReg ||| 0x04 else d.wd.statusReg

section
variable {c : Cfg} {k r m : Nat} {d e : Disk} (formatted : d.formatted = true) (h1 : 1 ≤ r) (hr : r ≤ 16)
include formatted h1 hr

/-- The next byte: LOST DATA is latched if the one before it is still pending. -/
theorem Transferred.next (t : Transferred d r m e) (hm : m < 256)
    (place : k % 6250 = 80 + 372 * (r - 1) + 60 + m) : Transferred d r (m + 1) (e.byteStep c k) := by
  have reads : e.wd.state = .t2Read := by rw [t.state, if_neg (by omega)]
  have byte : e.trackByteAt (k % 6250) = sectorData d.drive d.cyl d.wd.side r m := by
    rw [trackByteAt_congr t.drives t.betaSys, place, trackByteAt_data formatted h1 hr hm]
  have step := byteStep_of_t2Read (c := c) (k := k) t.released reads t.slow (by omega)
  rw [byte, t.byteIndex] at step
  rw [step]
  exact {
    drives := t.drives
    betaSys := t.betaSys
    released := t.released
    slow := t.slow
    byteIndex := rfl
    state := if_congr (by omega) rfl rfl
    dataReg := fun _ => rfl
    drq := by simp
    lostData := by rw [lostBy_succ, ← Bool.or_assoc, ← t.lostData, ← t.drq]
    statusReg := by rw [lostBy_succ, ← latch_lostData, ← t.statusReg, ← t.drq] }

/-- A transfer that the host does not serve, from the step before its first byte on (47 R646). -/
theorem transferred_byteStepsFrom (released : d.wd.heldInReset = false) (reads : d.wd.state = .t2Read)
    (atStart : d.wd.byteIndex = 0) (slow : d.wd.fastXfer = false)
    (place : (k + 1) % 6250 = 80 + 372 * (r - 1) + 60) (hm : m ≤ 256) :
    Transferred d r m (byteStepsFrom c k m d) := by
  induction m with
  | zero =>
    exact {
      drives := rfl
      betaSys := rfl
      released := released
      slow := slow
      byteIndex := atStart
      state := reads
      dataReg := nofun
      drq := (Bool.or_false _).symm
      lostData := (Bool.or_false _).symm
      statusReg := rfl }
  | succ m ih =>
    rw [byteStepsFrom_concat]
    exact (ih (by omega)).next formatted h1 hr (by omega) (by omega)

end

/-- Settles O59: the track's bytes, the sectors of either image, track 0 of an SCL disk and the transfer, each by its
lemma. -/
theorem trackLayout : Obligations.TrackLayout := by
  refine ⟨fun d r i h1 hr hi => ⟨fun formatted =>
        ⟨trackByteAt_data formatted h1 hr hi, trackByteAt_marks formatted h1 hr⟩,
      trackByteAt_unformatted, trackByteAt_not_ready⟩,
    fun d => ⟨wd_unit_val d.wd, rfl, rfl, rfl, rfl, formatted_iff d⟩,
    fun _ c s r i h => sectorData_of_trd h c s r i,
    fun _ _ c s r i h track0 => sectorData_of_scl h track0 c s r i,
    fun img o files ho => ⟨rfl, ?track0⟩, fun _ _ h => if_pos h, ?transfer⟩
  case track0 =>
    rw [sclTrack0Of_byte files ho]
    rfl
  case transfer =>
    intro c d k r n formatted released reads atStart slow h1 hr place hn
    have t := transferred_byteStepsFrom (c := c) (m := n + 1) formatted h1 hr released reads atStart slow place hn
    have lost : lostBy d.wd.drq (n + 1) = (d.wd.drq || decide (1 ≤ n)) := by simp [lostBy]
    refine ⟨t.drives, t.dataReg (by omega), ?_, t.byteIndex, ?_, lost ▸ t.lostData, lost ▸ t.statusReg⟩
    · rw [t.drq]
      simp
    · rw [t.state]
      exact if_congr (by omega) rfl rfl

end Sys2Proof.Machine
end

section
/-! Reset (70 R780; 10 R35 to R53; 47 R660; 48 R715). -/

namespace Sys2Proof.Machine

/-- The slots as `Paging.reset` lists them are those of 20 R104 for latch 0. -/
theorem reset_pageTableForm : PageTableForm State.reset := rfl

theorem reset_memoryForm : MemoryForm State.reset := ⟨rfl, rfl, rfl, by decide, nofun⟩

theorem reset_wdForm : WdForm State.reset := ⟨by decide, fun _ => rfl⟩

theorem reset_headForm : HeadForm State.reset := show ∀ u : Fin 4, _ by decide

theorem reset_ayForm : AyForm State.reset := ⟨by decide, by decide⟩

/-- Settles O20: the invariants one by one. -/
theorem resetMeetsInvariants : Obligations.ResetMeetsInvariants :=
  ⟨reset_memoryForm, reset_pageTableForm, rfl, reset_wdForm, reset_headForm, reset_ayForm⟩

/-- Settles O25: `State.reset` evaluated, one closed fact for each value. -/
theorem resetValues : Obligations.ResetValues := by
  unfold Obligations.ResetValues
  decide

end Sys2Proof.Machine
end

section
/-! The T-states an instruction takes without contention (70 R795; 20 R120 to R132). -/

namespace Sys2Proof.Machine

/-! ## What takes time -/

/-- From `s` the machine has come to `t`, which has no contention, in `n` T-states. -/
structure Took (n : Nat) (s t : State) : Prop where
  free : (archConfig t.cfg).hasContention = false
  time : t.clock.absTime = s.clock.absTime + n

namespace Took

theorem start {s : State} (free : (archConfig s.cfg).hasContention = false) : Took 0 s s := ⟨free, rfl⟩

section
variable {n : Nat} {s t : State} (h : Took n s t)
include h

/-- A change of the registers and a draw take no time. -/
theorem hide (c : Cpu) (k : Nat) : Took n s (t.hide c k) := ⟨h.free, h.time⟩

theorem mapCpu {f : Cpu → Cpu} : Took n s (t.mapCpu f) := h.hide _ _
theorem skip {k : Nat} : Took n s (t.skip k) := h.hide _ _
theorem setPc {a : Word} : Took n s (t.setPc a) := h.hide _ _
theorem setSp {a : Word} : Took n s (t.setSp a) := h.hide _ _
theorem setA {v : Byte} : Took n s (t.setA v) := h.hide _ _
theorem setF {v : Byte} : Took n s (t.setF v) := h.hide _ _
theorem setAF {v w : Byte} : Took n s (t.setAF v w) := h.hide _ _
theorem bumpR : Took n s (bumpR t) := h.hide _ _
theorem drawBool : Took n s (drawBool t).2 := h.hide _ _

/-- A store takes no time apart from its cycle. -/
theorem writeByte (a : Word) (v : Byte) : Took n s (t.writeByte a v) := ⟨h.free, h.time⟩

theorem advance (k : Nat) : Took (n + k) s (advance k t) := by
  refine ⟨h.free, ?_⟩
  rw [advance_clock, Clock.advance, h.time, Nat.add_assoc]

theorem contend (a : Word) : Took n s (contend a t) := by
  rw [Machine.contend, contendedAt_of_uncontended h.free]
  exact h

theorem chargeCycle (a : Word) (k : Nat) : Took (n + k) s (chargeCycle a k t) := (h.contend a).advance k

theorem fetch (a : Word) : Took (n + 4) s (fetch a t) :=
  have paged : Took n s { t with paging := fetchPaging t.cfg t.paging a } := ⟨h.free, h.time⟩
  (paged.chargeCycle a 4).bumpR

theorem skipRead (a : Word) : Took (n + 3) s (skipRead a t) := h.chargeCycle a 3

theorem memRead (a : Word) : Took (n + 3) s (memRead a t).2 := h.chargeCycle a 3

theorem memWrite (a : Word) (v : Byte) : Took (n + 3) s (memWrite a v t) := (h.chargeCycle a 3).writeByte a v

theorem internal (a : Word) (k : Nat) : Took (n + k) s (internal a k t) := by
  induction k with
  | zero => exact h
  | succ k ih =>
    rw [internal_succ]
    exact ih.chargeCycle a 1

theorem internalIr (k : Nat) : Took (n + k) s (internalIr k t) := h.internal _ k

theorem ioContended (k : Nat) : Took (n + k) s (ioContended k t) := by
  rw [Machine.ioContended, h.free]
  exact h.advance k

/-- The port is accessed 3 T-states after the start of the cycle (20 R132). -/
theorem chargeIo (p : Word) : Took (n + 3) s (chargeIo p t) := by
  rw [Machine.chargeIo, contendedAt_of_uncontended h.free, if_neg Bool.false_ne_true]
  split
  · exact (h.advance 1).ioContended 2
  · exact h.advance 3

theorem ioRead (p : Word) : Took (n + 4) s (ioRead p t).2 := by
  have accessed : Took (n + 3) s (portRead p (Machine.chargeIo p t)).2 := by
    rw [portRead_frame]
    exact ⟨(h.chargeIo p).free, (h.chargeIo p).time⟩
  exact accessed.advance 1

theorem ioWrite (p : Word) (v : Byte) : Took (n + 4) s (ioWrite p v t) := by
  have accessed : Took (n + 3) s (portWrite p v (Machine.chargeIo p t)) := by
    rw [portWrite_frame]
    exact ⟨(h.chargeIo p).free, (h.chargeIo p).time⟩
  exact accessed.advance 1

/-! ## The sequences instructions share -/

theorem memReadWord (a : Word) : Took (n + 6) s (memReadWord a t).2 := (h.memRead a).memRead _

theorem memWriteWord (a w : Word) : Took (n + 6) s (memWriteWord a w t) := (h.memWrite a _).memWrite _ _

/-- A byte read, changed and written back (41 R311, 42 R374). -/
theorem modify (a : Word) (f : Byte → Byte) : Took (n + 7) s (modify a f t).2 :=
  ((h.memRead a).internal a 1).memWrite a _

theorem probe (a : Word) : Took (n + 4) s (probe a t).2 := (h.memRead a).internal a 1

theorem push (w : Word) : Took (n + 6) s (push w t) := ((h.memWrite _ _).memWrite _ _).setSp

theorem pop : Took (n + 6) s (pop t).2 := (h.memReadWord _).setSp

theorem returnFromInterrupt : Took (n + 6) s (returnFromInterrupt t) := h.pop.hide _ _

theorem call (back target : Word) : Took (n + 6) s (call back target t) := (h.push back).setPc

theorem takeRel (pc : Word) (e : Byte) : Took (n + 5) s (takeRel pc e t) := (h.internal _ 5).setPc

theorem exchangeTop (w : Word) : Took (n + 15) s (exchangeTop w t).2 :=
  ((((h.memReadWord _).internal _ 1).memWrite _ _).memWrite _ _).internal _ 2

theorem loadAIr (v : Byte) : Took n s (loadAIr v t) := by
  unfold Machine.loadAIr
  split
  · exact h.drawBool.setAF
  · exact h.setAF

/-- An acknowledge of `k` T-states and the push of PC (60 R742, R745). -/
theorem enterHandler (k : Nat) (a : Word) : Took (n + (k + 6)) s (enterHandler k a t) := by
  rw [← Nat.add_assoc]
  exact ((h.bumpR.advance k).push _).setPc

/-- A block instruction that goes round again (40 R269). -/
theorem repeatAt (a : Word) : Took (n + 5) s (repeatAt a t) := h.internal a 5

end

section
variable {n : Nat} {s : State} (op2 : Took n s (fetchOp2 s)) (d : Direction)
include op2

theorem copyStep : Took (n + 8) s (copyStep d s).2 := by
  unfold Machine.copyStep
  dsimp only
  exact (((op2.memRead _).memWrite _ _).internal _ 2).mapCpu

theorem searchStep : Took (n + 8) s (searchStep d s).2 := by
  unfold Machine.searchStep
  dsimp only
  exact ((op2.memRead _).internal _ 5).mapCpu

theorem inStep : Took (n + 8) s (inStep d s).2 := by
  unfold Machine.inStep
  dsimp only
  exact (((op2.internalIr 1).ioRead _).memWrite _ _).mapCpu

theorem outStep : Took (n + 8) s (outStep d s).2 := by
  unfold Machine.outStep
  dsimp only
  exact (((op2.internalIr 1).memRead _).mapCpu.ioWrite _ _).mapCpu

end

/-- An instruction with two ends, the one its condition chooses the longer. -/
theorem ite {m n : Nat} {s t u : State} {b : Bool} {p : Prop} [Decidable p] (hp : p ↔ b = true)
    (ht : Took (n + m) s t) (hu : Took n s u) : Took (n + plusIf b m) s (if p then t else u) := by
  cases b with
  | false => exact (if_neg (mt hp.mp Bool.false_ne_true)).symm ▸ hu
  | true => exact (if_pos (hp.mpr rfl)).symm ▸ ht

/-- As `ite`, the longer end the one its condition does not choose. -/
theorem ite_else {m n : Nat} {s t u : State} {b : Bool} {p : Prop} [Decidable p] (hp : ¬ p ↔ b = true)
    (ht : Took n s t) (hu : Took (n + m) s u) : Took (n + plusIf b m) s (if p then t else u) := by
  rw [← ite_not]
  exact .ite hp hu ht

end Took

/-! ## The conditions of the block instructions -/

section
variable (d : Direction) (s : State)

theorem copyIteration_repeats_iff : countPv (copyStep d s).2 = true ↔ bcRepeats s = true := by
  rw [countPv, (ran_copyStep s d).cpu, bc_setBc, bcRepeats]

theorem searchIteration_repeats_iff :
    (countPv (searchStep d s).2 && (searchStep d s).2.cpu.a - (searchStep d s).1 != 0) = true
      ↔ searchRepeats s = true := by
  have accumulator : (searchStep d s).2.cpu.a = s.cpu.a := by
    rw [(ran_searchStep s d).cpu]
    rfl
  rw [accumulator, countPv, searchStep_fst, (ran_searchStep s d).cpu, bc_setBc, searchRepeats, bcRepeats]

theorem inStep_b : (inStep d s).2.cpu.b = s.cpu.b - 1 := congrArg Cpu.b (ran_inStep s d).cpu

theorem outStep_b : (outStep d s).2.cpu.b = s.cpu.b - 1 := congrArg Cpu.b (ran_outStep s d).cpu

theorem bRepeats_iff {b : Byte} (counted : b = s.cpu.b - 1) : ¬ b = 0 ↔ bRepeats s = true := by
  rw [counted, bRepeats, bne_iff_ne]

end

/-! ## The timing table -/

/-- Each instruction is its bus sequence, then a change of the registers, which takes no time. -/
theorem took_exec {s : State} (free : (archConfig s.cfg).hasContention = false) (i : Instr) :
    NextIs (Took (baseTime i s) s) (exec i s) := by
  have op : Took 4 s (fetchOp s) := (Took.start free).fetch _
  have opN : Took 7 s (fetchOpN s) := op.skipRead _
  have opNn : Took 10 s (fetchOpNn s) := opN.skipRead _
  have op2 : Took 8 s (fetchOp2 s) := op.fetch _
  have op2N : Took 11 s (fetchOp2N s) := op2.skipRead _
  have op2Nn : Took 14 s (fetchOp2Nn s) := op2N.skipRead _
  have opIdx : Took 16 s (fetchIdx s) := op2N.internal _ 5
  have opXcb : Took 16 s (fetchXcb s) := op2Nn.internal _ 2
  have mHl : Took 7 s (srcMHl s).2 := op.memRead _
  have mIx (i : Idx) (d : Byte) : Took 19 s (srcMIx i d s).2 := opIdx.memRead _
  have copied (d : Direction) : Took 16 s (copyStep d s).2 := op2.copyStep d
  have searched (d : Direction) : Took 16 s (searchStep d s).2 := op2.searchStep d
  have input (d : Direction) : Took 16 s (inStep d s).2 := op2.inStep d
  have output (d : Direction) : Took 16 s (outStep d s).2 := op2.outStep d
  cases i with
  -- loads and exchanges
  | ldRS | exAfAf | exx | exDeHl => exact nextIs_next op.mapCpu.skip
  | ldRN => exact nextIs_next opN.mapCpu.skip
  | ldRrNn => exact nextIs_next opNn.mapCpu.skip
  | ldIiNn => exact nextIs_next op2Nn.mapCpu.skip
  | ldHalves => exact nextIs_undocumented op2.mapCpu.skip
  | ldIhlN => exact nextIs_undocumented op2N.mapCpu.skip
  | ldRMHl => exact nextIs_next mHl.mapCpu.skip
  | ldRMIx i r d => exact nextIs_next (mIx i d).mapCpu.skip
  | ldAMBc | ldAMDe => exact nextIs_next (op.memRead _).setA.skip
  | ldAMNn => exact nextIs_next (opNn.memRead _).setA.skip
  | ldHlMNn => exact nextIs_next (opNn.memReadWord _).mapCpu.skip
  | ldRrMNn | ldIiMNn => exact nextIs_next (op2Nn.memReadWord _).mapCpu.skip
  | ldMBcA | ldMDeA | ldMHlS => exact nextIs_next (op.memWrite _ _).skip
  | ldMHlN => exact nextIs_next (opN.memWrite _ _).skip
  | ldMNnA => exact nextIs_next (opNn.memWrite _ _).skip
  | ldMIxS => exact nextIs_next (opIdx.memWrite _ _).skip
  | ldMIxN => exact nextIs_next ((op2Nn.internal _ 2).memWrite _ _).skip
  | ldMNnHl => exact nextIs_next (opNn.memWriteWord _ _).skip
  | ldMNnRr | ldMNnIi => exact nextIs_next (op2Nn.memWriteWord _ _).skip
  | ldIA | ldRA => exact nextIs_next (op2.internalIr 1).mapCpu.skip
  | ldAI | ldAR => exact nextIs_next ((op2.internalIr 1).loadAIr _).skip
  | ldSpHl => exact nextIs_next (op.internalIr 2).setSp.skip
  | ldSpIi => exact nextIs_next (op2.internalIr 2).setSp.skip
  | pushQq => exact nextIs_next ((op.internalIr 1).push _).skip
  | pushIi => exact nextIs_next ((op2.internalIr 1).push _).skip
  | popQq => exact nextIs_next op.pop.mapCpu.skip
  | popIi => exact nextIs_next op2.pop.mapCpu.skip
  | exMSpHl => exact nextIs_next (op.exchangeTop _).mapCpu.skip
  | exMSpIi => exact nextIs_next (op2.exchangeTop _).mapCpu.skip
  -- arithmetic
  | addAR | adcAR | subAR | sbcAR | andAR | xorAR | orAR | cpAR | daa | cpl => exact nextIs_next op.setAF.skip
  | addAMHl | adcAMHl | subAMHl | sbcAMHl | andAMHl | xorAMHl | orAMHl | cpAMHl => exact nextIs_next mHl.setAF.skip
  | addAN | adcAN | subAN | sbcAN | andAN | xorAN | orAN | cpAN => exact nextIs_next opN.setAF.skip
  | addAIhl | adcAIhl | subAIhl | sbcAIhl | andAIhl | xorAIhl | orAIhl | cpAIhl | negDup =>
    exact nextIs_undocumented op2.setAF.skip
  | addAMIx i d | adcAMIx i d | subAMIx i d | sbcAMIx i d | andAMIx i d | xorAMIx i d | orAMIx i d | cpAMIx i d =>
    exact nextIs_next (mIx i d).setAF.skip
  | incR | decR => exact nextIs_next op.mapCpu.setF.skip
  | incIhl | decIhl => exact nextIs_undocumented op2.mapCpu.setF.skip
  | incMHl | decMHl => exact nextIs_next (op.modify _ _).setF.skip
  | incMIx | decMIx => exact nextIs_next (opIdx.modify _ _).setF.skip
  | neg => exact nextIs_next op2.setAF.skip
  | scf | ccf => exact nextIs_next op.drawBool.drawBool.setF.skip
  | addHlRr => exact nextIs_next (op.internalIr 7).mapCpu.setF.skip
  | sbcHlRr | adcHlRr | addIiRr => exact nextIs_next (op2.internalIr 7).mapCpu.setF.skip
  | incRr | decRr => exact nextIs_next (op.internalIr 2).mapCpu.skip
  | incIi | decIi => exact nextIs_next (op2.internalIr 2).mapCpu.skip
  -- rotates, shifts and bits
  | rlca | rrca | rla | rra => exact nextIs_next op.setAF.skip
  | rlcR | rrcR | rlR | rrR | slaR | sraR | srlR => exact nextIs_next op2.mapCpu.setF.skip
  | sllR => exact nextIs_undocumented op2.mapCpu.setF.skip
  | rlcMHl | rrcMHl | rlMHl | rrMHl | slaMHl | sraMHl | srlMHl => exact nextIs_next (op2.modify _ _).setF.skip
  | sllMHl => exact nextIs_undocumented (op2.modify _ _).setF.skip
  | rlcMIx | rrcMIx | rlMIx | rrMIx | slaMIx | sraMIx | srlMIx => exact nextIs_next (opXcb.modify _ _).setF.skip
  | sllMIx => exact nextIs_undocumented (opXcb.modify _ _).setF.skip
  | rlcMIxCopy | rrcMIxCopy | rlMIxCopy | rrMIxCopy | slaMIxCopy | sraMIxCopy | sllMIxCopy | srlMIxCopy =>
    exact nextIs_undocumented (opXcb.modify _ _).setF.mapCpu.skip
  | rld | rrd => exact nextIs_next (((op2.memRead _).internal _ 4).memWrite _ _).setAF.skip
  | bitBR => exact nextIs_next op2.setF.skip
  | bitBMHl => exact nextIs_next (op2.probe _).drawBool.drawBool.setF.skip
  | bitBMIx => exact nextIs_next (opXcb.probe _).drawBool.drawBool.setF.skip
  | bitBMIxDup => exact nextIs_undocumented (opXcb.probe _).drawBool.drawBool.setF.skip
  | resBR | setBR => exact nextIs_next op2.mapCpu.skip
  | resBMHl | setBMHl => exact nextIs_next (op2.modify _ _).skip
  | resBMIx | setBMIx => exact nextIs_next (opXcb.modify _ _).skip
  | resBMIxCopy | setBMIxCopy => exact nextIs_undocumented (opXcb.modify _ _).mapCpu.skip
  -- control transfer
  | nop => exact nextIs_next op.skip
  | halt | di | ei => exact nextIs_next op.mapCpu.skip
  | ignoredPrefix => exact nextIs_undocumented op.mapCpu.skip
  | nopEd7 | noni => exact nextIs_undocumented op2.skip
  | im0 | im1 | im2 => exact nextIs_next op2.mapCpu.skip
  | imDup => exact nextIs_undocumented op2.mapCpu.skip
  | jpHl => exact nextIs_next op.setPc
  | jpIi => exact nextIs_next op2.setPc
  | jpNn => exact nextIs_next opNn.setPc
  | jpCNn =>
    refine nextIs_next ?_
    split
    · exact opNn.setPc
    · exact opNn.skip
  | jr => exact nextIs_next (opN.takeRel _ _)
  | jrC => exact nextIs_next (.ite .rfl (opN.takeRel _ _) opN.skip)
  | djnz =>
    have counted := (op.internalIr 1).skipRead (s.cpu.pc + 1)
    exact nextIs_next (.ite_else (bRepeats_iff s rfl) counted.mapCpu.skip (counted.mapCpu.takeRel _ _))
  | callNn => exact nextIs_next ((opNn.internal _ 1).call _ _)
  | callCNn => exact nextIs_next (.ite .rfl ((opNn.internal _ 1).call _ _) opNn.skip)
  | rst => exact nextIs_next ((op.internalIr 1).call _ _)
  | ret => exact nextIs_next op.pop.setPc
  | retC => exact nextIs_next (.ite .rfl (op.internalIr 1).pop.setPc (op.internalIr 1).skip)
  | reti | retn => exact nextIs_next op2.returnFromInterrupt
  | retnDup => exact nextIs_undocumented op2.returnFromInterrupt
  -- input and output
  | inAN => exact nextIs_next (opN.ioRead _).setA.skip
  | inRC => exact nextIs_next (op2.ioRead _).setF.mapCpu.skip
  | inFC => exact nextIs_undocumented (op2.ioRead _).setF.skip
  | outNA => exact nextIs_next (opN.ioWrite _ _).skip
  | outCR => exact nextIs_next (op2.ioWrite _ _).skip
  | outC0 => exact nextIs_undocumented (op2.ioWrite _ _).skip
  -- block instructions
  | ldi | ldd => exact nextIs_next (copied _).setF.skip
  | ldir | lddr =>
    exact nextIs_next (.ite (copyIteration_repeats_iff _ s) ((copied _).drawBool.drawBool.setF.repeatAt _)
      (copied _).setF.skip)
  | cpi | cpd => exact nextIs_next (searched _).setF.skip
  | cpir | cpdr =>
    exact nextIs_next (.ite (searchIteration_repeats_iff _ s) ((searched _).drawBool.drawBool.setF.repeatAt _)
      (searched _).setF.skip)
  | ini | ind => exact nextIs_next (input _).setF.skip
  | inir | indr =>
    exact nextIs_next (.ite_else (bRepeats_iff s (inStep_b _ s)) (input _).setF.skip
      ((input _).drawBool.drawBool.drawBool.drawBool.setF.repeatAt _))
  | outi | outd => exact nextIs_next (output _).setF.skip
  | otir | otdr =>
    exact nextIs_next (.ite_else (bRepeats_iff s (outStep_b _ s)) (output _).setF.skip
      ((output _).drawBool.drawBool.drawBool.drawBool.setF.repeatAt _))
  -- a WD1793 command is a write at the present time (log 12)
  | wdRestore | wdSeek | wdStep | wdStepIn | wdStepOut | wdReadSector | wdWriteSector | wdReadAddress | wdReadTrack
  | wdWriteTrack | wdForceInterrupt => exact nextIs_next ⟨free, rfl⟩

/-- Settles O12: the time of each bus sequence, summed. -/
theorem uncontendedTimes : Obligations.UncontendedTimes := fun i _ t free ht => (took_exec free i t ht).time

end Sys2Proof.Machine
end

section
/-! The acceptance of a maskable interrupt and of an NMI (60 R742 to R745). -/

namespace Sys2Proof.Machine

section
variable {s t bus : State} {pg : Paging} {c : Cpu} {ws : List (Word × Byte)}

/-- The acknowledge, R counted on, PC pushed high byte first, and PC at the handler (60 R742, R745). -/
theorem Ran.enterHandler (h : Ran s t bus pg c ws) (n : Nat) (a : Word) :
    Ran s (enterHandler n a t)
      (Machine.memWrite (c.sp - 2) (loByte c.pc) (Machine.memWrite (c.sp - 1) (hiByte c.pc) (advance n bus))) pg
      { c with r := nextR c.r, sp := c.sp - 2, pc := a }
      (ws ++ [(c.sp - 1, hiByte c.pc)] ++ [(c.sp - 2, loByte c.pc)]) := by
  obtain rfl := h.cpu
  have acked := (h.mapCpu fun c => { c with r := nextR c.r }).time (advance_timeOnly n) (advance_hide n)
  exact ((acked.memWrite _ _).memWrite _ _).mapCpu fun c => { c with sp := t.cpu.sp - 2, pc := a }

/-- A word is read from what has been stored. -/
theorem Ran.memReadWord_fst_stored (h : Ran s t bus pg c ws) (a : Word) :
    let ram := storeAll pg s.ram ws
    (Machine.memReadWord a t).1 = mkWord (readThrough pg s.rom ram (a + 1)) (readThrough pg s.rom ram a) := by
  rw [Machine.memReadWord_fst, h.state]

end

section
variable (s : State)

/-- The flip-flops as the acceptance of a maskable interrupt leaves them. -/
def Cpu.ackInt (c : Cpu) : Cpu := { c with halted := false, iff1 := false, iff2 := false }

/-- The flip-flops as the acceptance of an NMI leaves them. -/
def Cpu.ackNmi (c : Cpu) : Cpu := { c with nmiPending := false, eiBlock := false, halted := false, iff1 := false }

theorem acceptInt_of_ne_im2 (h : s.cpu.im ≠ .im2) : acceptInt s = enterHandler 7 0x0038 (s.mapCpu Cpu.ackInt) := by
  unfold acceptInt
  dsimp only
  split
  · rfl
  · rfl
  · next im2 => exact absurd im2 h

/-- In IM 2 the handler's address is read after the push (60 R744). -/
theorem acceptInt_of_im2 (h : s.cpu.im = .im2) :
    let v := memReadWord (vectorAddress s.cpu.i) (enterHandler 7 0x0038 (s.mapCpu Cpu.ackInt))
    acceptInt s = v.2.setPc v.1 := by
  unfold acceptInt
  dsimp only
  split
  · next im0 => exact nomatch im0.symm.trans h
  · next im1 => exact nomatch im1.symm.trans h
  · rfl

theorem took_acceptInt (free : (archConfig s.cfg).hasContention = false) :
    Took (if s.cpu.im = .im2 then 19 else 13) s (acceptInt s) := by
  have entered := ((Took.start free).mapCpu (f := Cpu.ackInt)).enterHandler 7 0x0038
  split
  · next im2 =>
    rw [acceptInt_of_im2 s im2]
    exact (entered.memReadWord _).setPc
  · next other =>
    rw [acceptInt_of_ne_im2 s other]
    exact entered

theorem took_acceptNmi (free : (archConfig s.cfg).hasContention = false) : Took 11 s (acceptNmi s) :=
  ((Took.start free).mapCpu (f := Cpu.ackNmi)).enterHandler 5 0x0066

end

/-- Settles O9: either acceptance enters its handler; in IM 2 a maskable one then reads the handler's address. -/
theorem interruptEntry : Obligations.InterruptEntry := by
  refine ⟨fun s => ⟨?_, fun free => (took_acceptInt s free).time⟩,
    fun s => ⟨?_, fun free => (took_acceptNmi s free).time⟩⟩
  · have entered := ((ran_start s).mapCpu Cpu.ackInt).enterHandler 7 0x0038
    by_cases im2 : s.cpu.im = .im2
    · simp only [if_pos im2]
      rw [acceptInt_of_im2 s im2, entered.memReadWord_fst_stored]
      exact ((entered.memReadWord _).setPc _).storesOnly
    · simp only [if_neg im2]
      rw [acceptInt_of_ne_im2 s im2]
      exact entered.storesOnly
  · exact (((ran_start s).mapCpu Cpu.ackNmi).enterHandler 5 0x0066).storesOnly

end Sys2Proof.Machine
end
